-- ==== Sys2Proof/Word.lean ====
section
/-!
DEFINITION. The machine's two word types (00_scope.md R7) and the closed sets of names that the operand
fields of 30_encoding.md (R156 to R162) select from. Plain data only: the field codes, the byte order and
every computation stand in Decode.lean and under Machine/.
-/

namespace Sys2Proof

/-- The addressable unit and the width of a general register (R7). -/
abbrev Byte := BitVec 8

/-- The width of an address, of PC and of SP (R7). -/
abbrev Word := BitVec 16

/-- The registers an `r` field can name (R156); field value 6, the byte at HL, is not one of them. -/
inductive Reg8 where
  | b | c | d | e | h | l | a
  deriving DecidableEq, Repr

/-- The `rp` field (R157). -/
inductive Pair where
  | bc | de | hl | sp
  deriving DecidableEq, Repr

/-- The `rp2` field of PUSH and POP (R158). -/
inductive StackPair where
  | bc | de | hl | af
  deriving DecidableEq, Repr

/-- The condition field (R159). -/
inductive Cond where
  | nz | z | nc | c
  deriving DecidableEq, Repr

/-- The ALU operation field (R160). -/
inductive AluOp where
  | add | adc | sub | sbc | and | xor | or | cp
  deriving DecidableEq, Repr

/-- The four accumulator rotates of the first page (R300 to R303). -/
inductive AccRot where
  | rlca | rrca | rla | rra
  deriving DecidableEq, Repr

/-- The rotate/shift operation field of the prefixed page (R161). -/
inductive RotOp where
  | rlc | rrc | rl | rr | sla | sra | swap | srl
  deriving DecidableEq, Repr

/-- The operand `r8[z]` of a prefixed instruction: a register, or the byte at HL (R156). -/
inductive Target where
  | reg (r : Reg8)
  | mem
  deriving DecidableEq, Repr

/-- The second operand of an ALU instruction (42_alu8.md): a register, the byte at HL, or `d8`. -/
inductive Source where
  | reg (r : Reg8)
  | mem
  | imm (n : Byte)
  deriving DecidableEq, Repr

/-- Where the loads and stores of A alone find their byte (R205 to R218). -/
inductive Place where
  | bc | de
  | abs (w : Word)
  | high (n : Byte)
  | highC
  | hlInc | hlDec
  deriving DecidableEq, Repr

/-- A bit index of BIT, RES and SET, or the RST number (R162). -/
abbrev BitIndex := Fin 8

end Sys2Proof
end

