-- ==== Sys2Proof/Config.lean ====
section
/-!
DEFINITION. What is fixed for one machine and not state: the parameters of 00_scope.md R8 as one record,
the outward calls and questions of the block's boundary (R12), and the free values, which have no body.
-/

namespace Sys2Proof

/-- The `IME_BYPASS_POLICY` parameter (R8, R406). -/
inductive BypassPolicy where
  | serve | refuse
  deriving DecidableEq, Repr

/-- The cost of one opcode: not taken, taken (R8 `CYCLES`). -/
structure Cost where
  notTaken : Nat
  taken    : Nat
  deriving DecidableEq, Repr

/-- The open parameters of R8. A run never changes them (State.cfg). Sets of addresses are lists of
half-open ranges. `cycles` holds the opcodes whose cost differs from the default table of R166, keyed by
combined opcode; `bootBytes` the bytes of `BOOT_ROM` that are known, inside the domain `bootRanges`. -/
structure Config where
  cgbMode          : Bool
  bootRanges       : List (Nat × Nat)
  bootBytes        : List Host.Cell
  cycles           : List (Nat × Cost)
  speedSwitchStall : Nat
  audioOwned       : List (Nat × Nat)
  videoOwned       : List (Nat × Nat)
  imeBypass        : BypassPolicy
  deriving DecidableEq, Repr

/-- A call the block makes that may change something outside it (R12; R95 to R99). -/
inductive Call where
  | romWrite   (a : Word) (v : Byte)
  | xramWrite  (a : Word) (v : Byte)
  | audioWrite (a : Word) (v : Byte)
  | videoWrite (a : Word) (v : Byte)
  | hdma       (v : Byte)
  deriving DecidableEq, Repr

/-- A question the block asks outside it, answered by one byte (R12; R95 to R98). `gap` is the parameter
`GAP_READ` (R109), `input` carries the stored port value (R97). -/
inductive Query where
  | rom   (a : Word)
  | xram  (a : Word)
  | input (port : Byte)
  | audio (a : Word)
  | video (a : Word)
  | gap   (a : Word)
  deriving DecidableEq, Repr

/-- FREE VALUE (log 4). What the outside answers to a question, given the number of steps taken and the
calls it has received. -/
opaque Config.outside : Query → Nat → List Call → BitVec 8

/-- FREE VALUE (log 6). The video-RAM bytes (bank, offset, value) an HDMA request writes (R99), given the
number of steps taken and the calls made, the request among them. -/
opaque Config.hdmaWrites : Nat → List Call → List (BitVec 1 × BitVec 13 × BitVec 8)

/-- FREE VALUE (log 3). The contents of the boot overlay, which R8 leaves open. -/
opaque Config.bootContents : Nat → BitVec 8

/-- FREE VALUE (log 3). The size of the speed-switch stall, which R8 leaves open (D21). -/
opaque Config.openStall : Nat

/-- The defaults of R8 for the variant without (`false`) or with (`true`) `CGB_MODE`. -/
def Config.defaults (cgb : Bool) : Config where
  cgbMode          := cgb
  bootRanges       := if cgb then [(0x0000, 0x0100), (0x0200, 0x0900)] else [(0x0000, 0x0100)]
  bootBytes        := []
  cycles           := []
  speedSwitchStall := Config.openStall
  audioOwned       := [(0xFF10, 0xFF40)]
  videoOwned       := if cgb then [(0xFF68, 0xFF6C)] else []
  imeBypass        := .serve

end Sys2Proof
end

