-- ==== Sys2Proof/WellFormed.lean ====
section
/-!
DEFINITION. Which terms stand for an instruction that has a handler (30_encoding.md R152, R165), and which
configurations keep the conditions 00_scope.md R8 and 20_memory.md R98 put on the parameters.
Immediates need no check: their types have exactly the widths of R151.
-/

namespace Sys2Proof

/-- The prefix byte is a dispatch entry, "not an instruction" (R152, R365). -/
def Instr.isPrefix : Instr → Bool
  | .prefix_cb => true
  | _ => false

/-- The eleven first-page codes without a handler (R165). -/
def Instr.isIllegal : Instr → Bool
  | .illegal_d3 | .illegal_db | .illegal_dd | .illegal_e3 | .illegal_e4 | .illegal_eb | .illegal_ec
  | .illegal_ed | .illegal_f4 | .illegal_fc | .illegal_fd => true
  | _ => false

/-- An instruction with a handler: 244 of the first page and 256 of the second. -/
def Instr.wellFormed (i : Instr) : Bool := !i.isPrefix && !i.isIllegal

/-- The I/O addresses the block itself owns (R98): no collaborator may own one of them. -/
def interceptPorts : List Nat :=
  [0xFF00, 0xFF04, 0xFF05, 0xFF06, 0xFF07, 0xFF0F, 0xFF46, 0xFF4D, 0xFF4F, 0xFF50, 0xFF55, 0xFF70]

/-- Two lists of half-open ranges have no address in common. -/
def rangesDisjoint (xs ys : List (Nat × Nat)) : Bool :=
  xs.all fun x => ys.all fun y => decide (x.2 ≤ y.1) || decide (y.2 ≤ x.1)

/-- Every range lies inside [lo, hi). -/
def rangesInside (lo hi : Nat) (xs : List (Nat × Nat)) : Bool :=
  xs.all fun x => decide (lo ≤ x.1) && decide (x.2 ≤ hi)

/-- The owned ports lie in the I/O window and hold no intercept (R98). -/
def ownedOk (xs : List (Nat × Nat)) : Bool :=
  rangesInside 0xFF00 0xFF80 xs && rangesDisjoint xs (interceptPorts.map fun p => (p, p + 1))

/-- The overlay lies in [0x0000, 0x8000) (R81). -/
def Config.bootOk (c : Config) : Bool := rangesInside 0 0x8000 c.bootRanges

/-- The two owned sets are legal and disjoint (R98). -/
def Config.ownersOk (c : Config) : Bool :=
  ownedOk c.audioOwned && ownedOk c.videoOwned && rangesDisjoint c.audioOwned c.videoOwned

/-- Every cost is greater than 0 (R166). That a taken cost is larger is asked of no override: the
model reads it as a fact of the default table (DESIGN CHOICE of log 26, safe). -/
def Config.costsOk (c : Config) : Bool :=
  c.cycles.all fun e => decide (0 < e.2.notTaken) && decide (0 < e.2.taken)

/-- A legal choice of the parameters of R8. -/
def Config.wf (c : Config) : Bool := c.bootOk && c.ownersOk && c.costsOk

end Sys2Proof
end

