-- ==== Sys2Proof/Decode.lean ====
section
/-!
DEFINITION. From bytes to instructions and back (30_encoding.md). Decoding reads the two opcode grids
(R163, R164) and the formats (R151); encoding writes each instruction's bytes from its own rule's bit pattern
and the field tables (R156 to R162). The two are written from different parts of the spec, so that a slip in
one shows as a failed round trip. Every sequence of bytes decodes or is rejected by name.
-/

namespace Sys2Proof

/-! ## Byte order and fields (00_scope.md R9; 20_memory.md R121) -/

/-- `hi(w)`. -/
def hi (w : Word) : Byte := w.extractLsb' 8 8

/-- `lo(w)`. -/
def lo (w : Word) : Byte := w.extractLsb' 0 8

/-- The 16-bit value with high byte `h` and low byte `l`. -/
def mk16 (h l : Byte) : Word := h ++ l

/-! ## The shape of an instruction

The rows of the table grouped by the rule that gives them their meaning, with the operand fields named. -/

/-- One constructor per rule of the instruction files, or per group of rules with one operand form. -/
inductive Form where
  | nop | halt | stop | di | ei
  | ldRegReg (dst src : Reg8)
  | ldRegImm (dst : Reg8) (n : Byte)
  | ldRegMem (dst : Reg8)
  | ldMemReg (r : Reg8)
  | ldMemImm (n : Byte)
  | ldA (p : Place)
  | stA (p : Place)
  | ldPairImm (p : Pair) (w : Word)
  | ldAbsSp (w : Word)
  | ldSpHl
  | ldHlSp (e : Byte)
  | push (p : StackPair)
  | pop (p : StackPair)
  | alu (o : AluOp) (x : Source)
  | incReg (r : Reg8)
  | decReg (r : Reg8)
  | incMem | decMem
  | daa | cpl | scf | ccf
  | incPair (p : Pair)
  | decPair (p : Pair)
  | addHl (p : Pair)
  | addSp (e : Byte)
  | accRot (o : AccRot)
  | rot (o : RotOp) (t : Target)
  | bit (k : BitIndex) (t : Target)
  | res (k : BitIndex) (t : Target)
  | set (k : BitIndex) (t : Target)
  | jp (w : Word)
  | jpCond (cc : Cond) (w : Word)
  | jpHl
  | jr (e : Byte)
  | jrCond (cc : Cond) (e : Byte)
  | call (w : Word)
  | callCond (cc : Cond) (w : Word)
  | rst (k : BitIndex)
  | ret
  | retCond (cc : Cond)
  | reti
  | pageTwo
  | illegal (b : Byte)
  deriving DecidableEq, Repr

/-- The shape of each row. -/
def Instr.form : Instr → Form
  | .nop => .nop
  | .ld_bc_d16 w => .ldPairImm .bc w
  | .ld_mbc_a => .stA .bc
  | .inc_bc => .incPair .bc
  | .inc_b => .incReg .b
  | .dec_b => .decReg .b
  | .ld_b_d8 n => .ldRegImm .b n
  | .rlca => .accRot .rlca
  | .ld_ma16_sp w => .ldAbsSp w
  | .add_hl_bc => .addHl .bc
  | .ld_a_mbc => .ldA .bc
  | .dec_bc => .decPair .bc
  | .inc_c => .incReg .c
  | .dec_c => .decReg .c
  | .ld_c_d8 n => .ldRegImm .c n
  | .rrca => .accRot .rrca
  | .stop => .stop
  | .ld_de_d16 w => .ldPairImm .de w
  | .ld_mde_a => .stA .de
  | .inc_de => .incPair .de
  | .inc_d => .incReg .d
  | .dec_d => .decReg .d
  | .ld_d_d8 n => .ldRegImm .d n
  | .rla => .accRot .rla
  | .jr_e8 e => .jr e
  | .add_hl_de => .addHl .de
  | .ld_a_mde => .ldA .de
  | .dec_de => .decPair .de
  | .inc_e => .incReg .e
  | .dec_e => .decReg .e
  | .ld_e_d8 n => .ldRegImm .e n
  | .rra => .accRot .rra
  | .jr_nz_e8 e => .jrCond .nz e
  | .ld_hl_d16 w => .ldPairImm .hl w
  | .ld_mhli_a => .stA .hlInc
  | .inc_hl => .incPair .hl
  | .inc_h => .incReg .h
  | .dec_h => .decReg .h
  | .ld_h_d8 n => .ldRegImm .h n
  | .daa => .daa
  | .jr_z_e8 e => .jrCond .z e
  | .add_hl_hl => .addHl .hl
  | .ld_a_mhli => .ldA .hlInc
  | .dec_hl => .decPair .hl
  | .inc_l => .incReg .l
  | .dec_l => .decReg .l
  | .ld_l_d8 n => .ldRegImm .l n
  | .cpl => .cpl
  | .jr_nc_e8 e => .jrCond .nc e
  | .ld_sp_d16 w => .ldPairImm .sp w
  | .ld_mhld_a => .stA .hlDec
  | .inc_sp => .incPair .sp
  | .inc_mhl => .incMem
  | .dec_mhl => .decMem
  | .ld_mhl_d8 n => .ldMemImm n
  | .scf => .scf
  | .jr_c_e8 e => .jrCond .c e
  | .add_hl_sp => .addHl .sp
  | .ld_a_mhld => .ldA .hlDec
  | .dec_sp => .decPair .sp
  | .inc_a => .incReg .a
  | .dec_a => .decReg .a
  | .ld_a_d8 n => .ldRegImm .a n
  | .ccf => .ccf
  | .ld_b_b => .ldRegReg .b .b
  | .ld_b_c => .ldRegReg .b .c
  | .ld_b_d => .ldRegReg .b .d
  | .ld_b_e => .ldRegReg .b .e
  | .ld_b_h => .ldRegReg .b .h
  | .ld_b_l => .ldRegReg .b .l
  | .ld_b_mhl => .ldRegMem .b
  | .ld_b_a => .ldRegReg .b .a
  | .ld_c_b => .ldRegReg .c .b
  | .ld_c_c => .ldRegReg .c .c
  | .ld_c_d => .ldRegReg .c .d
  | .ld_c_e => .ldRegReg .c .e
  | .ld_c_h => .ldRegReg .c .h
  | .ld_c_l => .ldRegReg .c .l
  | .ld_c_mhl => .ldRegMem .c
  | .ld_c_a => .ldRegReg .c .a
  | .ld_d_b => .ldRegReg .d .b
  | .ld_d_c => .ldRegReg .d .c
  | .ld_d_d => .ldRegReg .d .d
  | .ld_d_e => .ldRegReg .d .e
  | .ld_d_h => .ldRegReg .d .h
  | .ld_d_l => .ldRegReg .d .l
  | .ld_d_mhl => .ldRegMem .d
  | .ld_d_a => .ldRegReg .d .a
  | .ld_e_b => .ldRegReg .e .b
  | .ld_e_c => .ldRegReg .e .c
  | .ld_e_d => .ldRegReg .e .d
  | .ld_e_e => .ldRegReg .e .e
  | .ld_e_h => .ldRegReg .e .h
  | .ld_e_l => .ldRegReg .e .l
  | .ld_e_mhl => .ldRegMem .e
  | .ld_e_a => .ldRegReg .e .a
  | .ld_h_b => .ldRegReg .h .b
  | .ld_h_c => .ldRegReg .h .c
  | .ld_h_d => .ldRegReg .h .d
  | .ld_h_e => .ldRegReg .h .e
  | .ld_h_h => .ldRegReg .h .h
  | .ld_h_l => .ldRegReg .h .l
  | .ld_h_mhl => .ldRegMem .h
  | .ld_h_a => .ldRegReg .h .a
  | .ld_l_b => .ldRegReg .l .b
  | .ld_l_c => .ldRegReg .l .c
  | .ld_l_d => .ldRegReg .l .d
  | .ld_l_e => .ldRegReg .l .e
  | .ld_l_h => .ldRegReg .l .h
  | .ld_l_l => .ldRegReg .l .l
  | .ld_l_mhl => .ldRegMem .l
  | .ld_l_a => .ldRegReg .l .a
  | .ld_mhl_b => .ldMemReg .b
  | .ld_mhl_c => .ldMemReg .c
  | .ld_mhl_d => .ldMemReg .d
  | .ld_mhl_e => .ldMemReg .e
  | .ld_mhl_h => .ldMemReg .h
  | .ld_mhl_l => .ldMemReg .l
  | .halt => .halt
  | .ld_mhl_a => .ldMemReg .a
  | .ld_a_b => .ldRegReg .a .b
  | .ld_a_c => .ldRegReg .a .c
  | .ld_a_d => .ldRegReg .a .d
  | .ld_a_e => .ldRegReg .a .e
  | .ld_a_h => .ldRegReg .a .h
  | .ld_a_l => .ldRegReg .a .l
  | .ld_a_mhl => .ldRegMem .a
  | .ld_a_a => .ldRegReg .a .a
  | .add_a_b => .alu .add (.reg .b)
  | .add_a_c => .alu .add (.reg .c)
  | .add_a_d => .alu .add (.reg .d)
  | .add_a_e => .alu .add (.reg .e)
  | .add_a_h => .alu .add (.reg .h)
  | .add_a_l => .alu .add (.reg .l)
  | .add_a_mhl => .alu .add .mem
  | .add_a_a => .alu .add (.reg .a)
  | .adc_a_b => .alu .adc (.reg .b)
  | .adc_a_c => .alu .adc (.reg .c)
  | .adc_a_d => .alu .adc (.reg .d)
  | .adc_a_e => .alu .adc (.reg .e)
  | .adc_a_h => .alu .adc (.reg .h)
  | .adc_a_l => .alu .adc (.reg .l)
  | .adc_a_mhl => .alu .adc .mem
  | .adc_a_a => .alu .adc (.reg .a)
  | .sub_b => .alu .sub (.reg .b)
  | .sub_c => .alu .sub (.reg .c)
  | .sub_d => .alu .sub (.reg .d)
  | .sub_e => .alu .sub (.reg .e)
  | .sub_h => .alu .sub (.reg .h)
  | .sub_l => .alu .sub (.reg .l)
  | .sub_mhl => .alu .sub .mem
  | .sub_a => .alu .sub (.reg .a)
  | .sbc_a_b => .alu .sbc (.reg .b)
  | .sbc_a_c => .alu .sbc (.reg .c)
  | .sbc_a_d => .alu .sbc (.reg .d)
  | .sbc_a_e => .alu .sbc (.reg .e)
  | .sbc_a_h => .alu .sbc (.reg .h)
  | .sbc_a_l => .alu .sbc (.reg .l)
  | .sbc_a_mhl => .alu .sbc .mem
  | .sbc_a_a => .alu .sbc (.reg .a)
  | .and_b => .alu .and (.reg .b)
  | .and_c => .alu .and (.reg .c)
  | .and_d => .alu .and (.reg .d)
  | .and_e => .alu .and (.reg .e)
  | .and_h => .alu .and (.reg .h)
  | .and_l => .alu .and (.reg .l)
  | .and_mhl => .alu .and .mem
  | .and_a => .alu .and (.reg .a)
  | .xor_b => .alu .xor (.reg .b)
  | .xor_c => .alu .xor (.reg .c)
  | .xor_d => .alu .xor (.reg .d)
  | .xor_e => .alu .xor (.reg .e)
  | .xor_h => .alu .xor (.reg .h)
  | .xor_l => .alu .xor (.reg .l)
  | .xor_mhl => .alu .xor .mem
  | .xor_a => .alu .xor (.reg .a)
  | .or_b => .alu .or (.reg .b)
  | .or_c => .alu .or (.reg .c)
  | .or_d => .alu .or (.reg .d)
  | .or_e => .alu .or (.reg .e)
  | .or_h => .alu .or (.reg .h)
  | .or_l => .alu .or (.reg .l)
  | .or_mhl => .alu .or .mem
  | .or_a => .alu .or (.reg .a)
  | .cp_b => .alu .cp (.reg .b)
  | .cp_c => .alu .cp (.reg .c)
  | .cp_d => .alu .cp (.reg .d)
  | .cp_e => .alu .cp (.reg .e)
  | .cp_h => .alu .cp (.reg .h)
  | .cp_l => .alu .cp (.reg .l)
  | .cp_mhl => .alu .cp .mem
  | .cp_a => .alu .cp (.reg .a)
  | .ret_nz => .retCond .nz
  | .pop_bc => .pop .bc
  | .jp_nz_a16 w => .jpCond .nz w
  | .jp_a16 w => .jp w
  | .call_nz_a16 w => .callCond .nz w
  | .push_bc => .push .bc
  | .add_a_d8 n => .alu .add (.imm n)
  | .rst_00h => .rst 0
  | .ret_z => .retCond .z
  | .ret => .ret
  | .jp_z_a16 w => .jpCond .z w
  | .prefix_cb => .pageTwo
  | .call_z_a16 w => .callCond .z w
  | .call_a16 w => .call w
  | .adc_a_d8 n => .alu .adc (.imm n)
  | .rst_08h => .rst 1
  | .ret_nc => .retCond .nc
  | .pop_de => .pop .de
  | .jp_nc_a16 w => .jpCond .nc w
  | .illegal_d3 => .illegal 0xD3#8
  | .call_nc_a16 w => .callCond .nc w
  | .push_de => .push .de
  | .sub_d8 n => .alu .sub (.imm n)
  | .rst_10h => .rst 2
  | .ret_c => .retCond .c
  | .reti => .reti
  | .jp_c_a16 w => .jpCond .c w
  | .illegal_db => .illegal 0xDB#8
  | .call_c_a16 w => .callCond .c w
  | .illegal_dd => .illegal 0xDD#8
  | .sbc_a_d8 n => .alu .sbc (.imm n)
  | .rst_18h => .rst 3
  | .ldh_ma8_a n => .stA (.high n)
  | .pop_hl => .pop .hl
  | .ld_mc_a => .stA .highC
  | .illegal_e3 => .illegal 0xE3#8
  | .illegal_e4 => .illegal 0xE4#8
  | .push_hl => .push .hl
  | .and_d8 n => .alu .and (.imm n)
  | .rst_20h => .rst 4
  | .add_sp_e8 e => .addSp e
  | .jp_hl => .jpHl
  | .ld_ma16_a w => .stA (.abs w)
  | .illegal_eb => .illegal 0xEB#8
  | .illegal_ec => .illegal 0xEC#8
  | .illegal_ed => .illegal 0xED#8
  | .xor_d8 n => .alu .xor (.imm n)
  | .rst_28h => .rst 5
  | .ldh_a_ma8 n => .ldA (.high n)
  | .pop_af => .pop .af
  | .ld_a_mc => .ldA .highC
  | .di => .di
  | .illegal_f4 => .illegal 0xF4#8
  | .push_af => .push .af
  | .or_d8 n => .alu .or (.imm n)
  | .rst_30h => .rst 6
  | .ld_hl_sp_e8 e => .ldHlSp e
  | .ld_sp_hl => .ldSpHl
  | .ld_a_ma16 w => .ldA (.abs w)
  | .ei => .ei
  | .illegal_fc => .illegal 0xFC#8
  | .illegal_fd => .illegal 0xFD#8
  | .cp_d8 n => .alu .cp (.imm n)
  | .rst_38h => .rst 7
  | .rlc_b => .rot .rlc (.reg .b)
  | .rlc_c => .rot .rlc (.reg .c)
  | .rlc_d => .rot .rlc (.reg .d)
  | .rlc_e => .rot .rlc (.reg .e)
  | .rlc_h => .rot .rlc (.reg .h)
  | .rlc_l => .rot .rlc (.reg .l)
  | .rlc_mhl => .rot .rlc .mem
  | .rlc_a => .rot .rlc (.reg .a)
  | .rrc_b => .rot .rrc (.reg .b)
  | .rrc_c => .rot .rrc (.reg .c)
  | .rrc_d => .rot .rrc (.reg .d)
  | .rrc_e => .rot .rrc (.reg .e)
  | .rrc_h => .rot .rrc (.reg .h)
  | .rrc_l => .rot .rrc (.reg .l)
  | .rrc_mhl => .rot .rrc .mem
  | .rrc_a => .rot .rrc (.reg .a)
  | .rl_b => .rot .rl (.reg .b)
  | .rl_c => .rot .rl (.reg .c)
  | .rl_d => .rot .rl (.reg .d)
  | .rl_e => .rot .rl (.reg .e)
  | .rl_h => .rot .rl (.reg .h)
  | .rl_l => .rot .rl (.reg .l)
  | .rl_mhl => .rot .rl .mem
  | .rl_a => .rot .rl (.reg .a)
  | .rr_b => .rot .rr (.reg .b)
  | .rr_c => .rot .rr (.reg .c)
  | .rr_d => .rot .rr (.reg .d)
  | .rr_e => .rot .rr (.reg .e)
  | .rr_h => .rot .rr (.reg .h)
  | .rr_l => .rot .rr (.reg .l)
  | .rr_mhl => .rot .rr .mem
  | .rr_a => .rot .rr (.reg .a)
  | .sla_b => .rot .sla (.reg .b)
  | .sla_c => .rot .sla (.reg .c)
  | .sla_d => .rot .sla (.reg .d)
  | .sla_e => .rot .sla (.reg .e)
  | .sla_h => .rot .sla (.reg .h)
  | .sla_l => .rot .sla (.reg .l)
  | .sla_mhl => .rot .sla .mem
  | .sla_a => .rot .sla (.reg .a)
  | .sra_b => .rot .sra (.reg .b)
  | .sra_c => .rot .sra (.reg .c)
  | .sra_d => .rot .sra (.reg .d)
  | .sra_e => .rot .sra (.reg .e)
  | .sra_h => .rot .sra (.reg .h)
  | .sra_l => .rot .sra (.reg .l)
  | .sra_mhl => .rot .sra .mem
  | .sra_a => .rot .sra (.reg .a)
  | .swap_b => .rot .swap (.reg .b)
  | .swap_c => .rot .swap (.reg .c)
  | .swap_d => .rot .swap (.reg .d)
  | .swap_e => .rot .swap (.reg .e)
  | .swap_h => .rot .swap (.reg .h)
  | .swap_l => .rot .swap (.reg .l)
  | .swap_mhl => .rot .swap .mem
  | .swap_a => .rot .swap (.reg .a)
  | .srl_b => .rot .srl (.reg .b)
  | .srl_c => .rot .srl (.reg .c)
  | .srl_d => .rot .srl (.reg .d)
  | .srl_e => .rot .srl (.reg .e)
  | .srl_h => .rot .srl (.reg .h)
  | .srl_l => .rot .srl (.reg .l)
  | .srl_mhl => .rot .srl .mem
  | .srl_a => .rot .srl (.reg .a)
  | .bit_0_b => .bit 0 (.reg .b)
  | .bit_0_c => .bit 0 (.reg .c)
  | .bit_0_d => .bit 0 (.reg .d)
  | .bit_0_e => .bit 0 (.reg .e)
  | .bit_0_h => .bit 0 (.reg .h)
  | .bit_0_l => .bit 0 (.reg .l)
  | .bit_0_mhl => .bit 0 .mem
  | .bit_0_a => .bit 0 (.reg .a)
  | .bit_1_b => .bit 1 (.reg .b)
  | .bit_1_c => .bit 1 (.reg .c)
  | .bit_1_d => .bit 1 (.reg .d)
  | .bit_1_e => .bit 1 (.reg .e)
  | .bit_1_h => .bit 1 (.reg .h)
  | .bit_1_l => .bit 1 (.reg .l)
  | .bit_1_mhl => .bit 1 .mem
  | .bit_1_a => .bit 1 (.reg .a)
  | .bit_2_b => .bit 2 (.reg .b)
  | .bit_2_c => .bit 2 (.reg .c)
  | .bit_2_d => .bit 2 (.reg .d)
  | .bit_2_e => .bit 2 (.reg .e)
  | .bit_2_h => .bit 2 (.reg .h)
  | .bit_2_l => .bit 2 (.reg .l)
  | .bit_2_mhl => .bit 2 .mem
  | .bit_2_a => .bit 2 (.reg .a)
  | .bit_3_b => .bit 3 (.reg .b)
  | .bit_3_c => .bit 3 (.reg .c)
  | .bit_3_d => .bit 3 (.reg .d)
  | .bit_3_e => .bit 3 (.reg .e)
  | .bit_3_h => .bit 3 (.reg .h)
  | .bit_3_l => .bit 3 (.reg .l)
  | .bit_3_mhl => .bit 3 .mem
  | .bit_3_a => .bit 3 (.reg .a)
  | .bit_4_b => .bit 4 (.reg .b)
  | .bit_4_c => .bit 4 (.reg .c)
  | .bit_4_d => .bit 4 (.reg .d)
  | .bit_4_e => .bit 4 (.reg .e)
  | .bit_4_h => .bit 4 (.reg .h)
  | .bit_4_l => .bit 4 (.reg .l)
  | .bit_4_mhl => .bit 4 .mem
  | .bit_4_a => .bit 4 (.reg .a)
  | .bit_5_b => .bit 5 (.reg .b)
  | .bit_5_c => .bit 5 (.reg .c)
  | .bit_5_d => .bit 5 (.reg .d)
  | .bit_5_e => .bit 5 (.reg .e)
  | .bit_5_h => .bit 5 (.reg .h)
  | .bit_5_l => .bit 5 (.reg .l)
  | .bit_5_mhl => .bit 5 .mem
  | .bit_5_a => .bit 5 (.reg .a)
  | .bit_6_b => .bit 6 (.reg .b)
  | .bit_6_c => .bit 6 (.reg .c)
  | .bit_6_d => .bit 6 (.reg .d)
  | .bit_6_e => .bit 6 (.reg .e)
  | .bit_6_h => .bit 6 (.reg .h)
  | .bit_6_l => .bit 6 (.reg .l)
  | .bit_6_mhl => .bit 6 .mem
  | .bit_6_a => .bit 6 (.reg .a)
  | .bit_7_b => .bit 7 (.reg .b)
  | .bit_7_c => .bit 7 (.reg .c)
  | .bit_7_d => .bit 7 (.reg .d)
  | .bit_7_e => .bit 7 (.reg .e)
  | .bit_7_h => .bit 7 (.reg .h)
  | .bit_7_l => .bit 7 (.reg .l)
  | .bit_7_mhl => .bit 7 .mem
  | .bit_7_a => .bit 7 (.reg .a)
  | .res_0_b => .res 0 (.reg .b)
  | .res_0_c => .res 0 (.reg .c)
  | .res_0_d => .res 0 (.reg .d)
  | .res_0_e => .res 0 (.reg .e)
  | .res_0_h => .res 0 (.reg .h)
  | .res_0_l => .res 0 (.reg .l)
  | .res_0_mhl => .res 0 .mem
  | .res_0_a => .res 0 (.reg .a)
  | .res_1_b => .res 1 (.reg .b)
  | .res_1_c => .res 1 (.reg .c)
  | .res_1_d => .res 1 (.reg .d)
  | .res_1_e => .res 1 (.reg .e)
  | .res_1_h => .res 1 (.reg .h)
  | .res_1_l => .res 1 (.reg .l)
  | .res_1_mhl => .res 1 .mem
  | .res_1_a => .res 1 (.reg .a)
  | .res_2_b => .res 2 (.reg .b)
  | .res_2_c => .res 2 (.reg .c)
  | .res_2_d => .res 2 (.reg .d)
  | .res_2_e => .res 2 (.reg .e)
  | .res_2_h => .res 2 (.reg .h)
  | .res_2_l => .res 2 (.reg .l)
  | .res_2_mhl => .res 2 .mem
  | .res_2_a => .res 2 (.reg .a)
  | .res_3_b => .res 3 (.reg .b)
  | .res_3_c => .res 3 (.reg .c)
  | .res_3_d => .res 3 (.reg .d)
  | .res_3_e => .res 3 (.reg .e)
  | .res_3_h => .res 3 (.reg .h)
  | .res_3_l => .res 3 (.reg .l)
  | .res_3_mhl => .res 3 .mem
  | .res_3_a => .res 3 (.reg .a)
  | .res_4_b => .res 4 (.reg .b)
  | .res_4_c => .res 4 (.reg .c)
  | .res_4_d => .res 4 (.reg .d)
  | .res_4_e => .res 4 (.reg .e)
  | .res_4_h => .res 4 (.reg .h)
  | .res_4_l => .res 4 (.reg .l)
  | .res_4_mhl => .res 4 .mem
  | .res_4_a => .res 4 (.reg .a)
  | .res_5_b => .res 5 (.reg .b)
  | .res_5_c => .res 5 (.reg .c)
  | .res_5_d => .res 5 (.reg .d)
  | .res_5_e => .res 5 (.reg .e)
  | .res_5_h => .res 5 (.reg .h)
  | .res_5_l => .res 5 (.reg .l)
  | .res_5_mhl => .res 5 .mem
  | .res_5_a => .res 5 (.reg .a)
  | .res_6_b => .res 6 (.reg .b)
  | .res_6_c => .res 6 (.reg .c)
  | .res_6_d => .res 6 (.reg .d)
  | .res_6_e => .res 6 (.reg .e)
  | .res_6_h => .res 6 (.reg .h)
  | .res_6_l => .res 6 (.reg .l)
  | .res_6_mhl => .res 6 .mem
  | .res_6_a => .res 6 (.reg .a)
  | .res_7_b => .res 7 (.reg .b)
  | .res_7_c => .res 7 (.reg .c)
  | .res_7_d => .res 7 (.reg .d)
  | .res_7_e => .res 7 (.reg .e)
  | .res_7_h => .res 7 (.reg .h)
  | .res_7_l => .res 7 (.reg .l)
  | .res_7_mhl => .res 7 .mem
  | .res_7_a => .res 7 (.reg .a)
  | .set_0_b => .set 0 (.reg .b)
  | .set_0_c => .set 0 (.reg .c)
  | .set_0_d => .set 0 (.reg .d)
  | .set_0_e => .set 0 (.reg .e)
  | .set_0_h => .set 0 (.reg .h)
  | .set_0_l => .set 0 (.reg .l)
  | .set_0_mhl => .set 0 .mem
  | .set_0_a => .set 0 (.reg .a)
  | .set_1_b => .set 1 (.reg .b)
  | .set_1_c => .set 1 (.reg .c)
  | .set_1_d => .set 1 (.reg .d)
  | .set_1_e => .set 1 (.reg .e)
  | .set_1_h => .set 1 (.reg .h)
  | .set_1_l => .set 1 (.reg .l)
  | .set_1_mhl => .set 1 .mem
  | .set_1_a => .set 1 (.reg .a)
  | .set_2_b => .set 2 (.reg .b)
  | .set_2_c => .set 2 (.reg .c)
  | .set_2_d => .set 2 (.reg .d)
  | .set_2_e => .set 2 (.reg .e)
  | .set_2_h => .set 2 (.reg .h)
  | .set_2_l => .set 2 (.reg .l)
  | .set_2_mhl => .set 2 .mem
  | .set_2_a => .set 2 (.reg .a)
  | .set_3_b => .set 3 (.reg .b)
  | .set_3_c => .set 3 (.reg .c)
  | .set_3_d => .set 3 (.reg .d)
  | .set_3_e => .set 3 (.reg .e)
  | .set_3_h => .set 3 (.reg .h)
  | .set_3_l => .set 3 (.reg .l)
  | .set_3_mhl => .set 3 .mem
  | .set_3_a => .set 3 (.reg .a)
  | .set_4_b => .set 4 (.reg .b)
  | .set_4_c => .set 4 (.reg .c)
  | .set_4_d => .set 4 (.reg .d)
  | .set_4_e => .set 4 (.reg .e)
  | .set_4_h => .set 4 (.reg .h)
  | .set_4_l => .set 4 (.reg .l)
  | .set_4_mhl => .set 4 .mem
  | .set_4_a => .set 4 (.reg .a)
  | .set_5_b => .set 5 (.reg .b)
  | .set_5_c => .set 5 (.reg .c)
  | .set_5_d => .set 5 (.reg .d)
  | .set_5_e => .set 5 (.reg .e)
  | .set_5_h => .set 5 (.reg .h)
  | .set_5_l => .set 5 (.reg .l)
  | .set_5_mhl => .set 5 .mem
  | .set_5_a => .set 5 (.reg .a)
  | .set_6_b => .set 6 (.reg .b)
  | .set_6_c => .set 6 (.reg .c)
  | .set_6_d => .set 6 (.reg .d)
  | .set_6_e => .set 6 (.reg .e)
  | .set_6_h => .set 6 (.reg .h)
  | .set_6_l => .set 6 (.reg .l)
  | .set_6_mhl => .set 6 .mem
  | .set_6_a => .set 6 (.reg .a)
  | .set_7_b => .set 7 (.reg .b)
  | .set_7_c => .set 7 (.reg .c)
  | .set_7_d => .set 7 (.reg .d)
  | .set_7_e => .set 7 (.reg .e)
  | .set_7_h => .set 7 (.reg .h)
  | .set_7_l => .set 7 (.reg .l)
  | .set_7_mhl => .set 7 .mem
  | .set_7_a => .set 7 (.reg .a)

/-! ## Decoding -/

/-- What stands behind one byte of the first page: a row with its format of R151, or the prefix. -/
inductive Entry where
  | op    (i : Instr)
  | imm8  (i : Byte → Instr)
  | imm16 (i : Word → Instr)
  | pad   (i : Instr)
  | pageTwo

/-- The first page by high nibble (row) and low nibble (column), as the grid of R163 prints it. -/
def firstPage : Vector (Vector Entry 16) 16 := #v[
  #v[.op .nop, .imm16 .ld_bc_d16, .op .ld_mbc_a, .op .inc_bc, .op .inc_b, .op .dec_b, .imm8 .ld_b_d8, .op .rlca, .imm16 .ld_ma16_sp, .op .add_hl_bc, .op .ld_a_mbc, .op .dec_bc, .op .inc_c, .op .dec_c, .imm8 .ld_c_d8, .op .rrca],
  #v[.pad .stop, .imm16 .ld_de_d16, .op .ld_mde_a, .op .inc_de, .op .inc_d, .op .dec_d, .imm8 .ld_d_d8, .op .rla, .imm8 .jr_e8, .op .add_hl_de, .op .ld_a_mde, .op .dec_de, .op .inc_e, .op .dec_e, .imm8 .ld_e_d8, .op .rra],
  #v[.imm8 .jr_nz_e8, .imm16 .ld_hl_d16, .op .ld_mhli_a, .op .inc_hl, .op .inc_h, .op .dec_h, .imm8 .ld_h_d8, .op .daa, .imm8 .jr_z_e8, .op .add_hl_hl, .op .ld_a_mhli, .op .dec_hl, .op .inc_l, .op .dec_l, .imm8 .ld_l_d8, .op .cpl],
  #v[.imm8 .jr_nc_e8, .imm16 .ld_sp_d16, .op .ld_mhld_a, .op .inc_sp, .op .inc_mhl, .op .dec_mhl, .imm8 .ld_mhl_d8, .op .scf, .imm8 .jr_c_e8, .op .add_hl_sp, .op .ld_a_mhld, .op .dec_sp, .op .inc_a, .op .dec_a, .imm8 .ld_a_d8, .op .ccf],
  #v[.op .ld_b_b, .op .ld_b_c, .op .ld_b_d, .op .ld_b_e, .op .ld_b_h, .op .ld_b_l, .op .ld_b_mhl, .op .ld_b_a, .op .ld_c_b, .op .ld_c_c, .op .ld_c_d, .op .ld_c_e, .op .ld_c_h, .op .ld_c_l, .op .ld_c_mhl, .op .ld_c_a],
  #v[.op .ld_d_b, .op .ld_d_c, .op .ld_d_d, .op .ld_d_e, .op .ld_d_h, .op .ld_d_l, .op .ld_d_mhl, .op .ld_d_a, .op .ld_e_b, .op .ld_e_c, .op .ld_e_d, .op .ld_e_e, .op .ld_e_h, .op .ld_e_l, .op .ld_e_mhl, .op .ld_e_a],
  #v[.op .ld_h_b, .op .ld_h_c, .op .ld_h_d, .op .ld_h_e, .op .ld_h_h, .op .ld_h_l, .op .ld_h_mhl, .op .ld_h_a, .op .ld_l_b, .op .ld_l_c, .op .ld_l_d, .op .ld_l_e, .op .ld_l_h, .op .ld_l_l, .op .ld_l_mhl, .op .ld_l_a],
  #v[.op .ld_mhl_b, .op .ld_mhl_c, .op .ld_mhl_d, .op .ld_mhl_e, .op .ld_mhl_h, .op .ld_mhl_l, .op .halt, .op .ld_mhl_a, .op .ld_a_b, .op .ld_a_c, .op .ld_a_d, .op .ld_a_e, .op .ld_a_h, .op .ld_a_l, .op .ld_a_mhl, .op .ld_a_a],
  #v[.op .add_a_b, .op .add_a_c, .op .add_a_d, .op .add_a_e, .op .add_a_h, .op .add_a_l, .op .add_a_mhl, .op .add_a_a, .op .adc_a_b, .op .adc_a_c, .op .adc_a_d, .op .adc_a_e, .op .adc_a_h, .op .adc_a_l, .op .adc_a_mhl, .op .adc_a_a],
  #v[.op .sub_b, .op .sub_c, .op .sub_d, .op .sub_e, .op .sub_h, .op .sub_l, .op .sub_mhl, .op .sub_a, .op .sbc_a_b, .op .sbc_a_c, .op .sbc_a_d, .op .sbc_a_e, .op .sbc_a_h, .op .sbc_a_l, .op .sbc_a_mhl, .op .sbc_a_a],
  #v[.op .and_b, .op .and_c, .op .and_d, .op .and_e, .op .and_h, .op .and_l, .op .and_mhl, .op .and_a, .op .xor_b, .op .xor_c, .op .xor_d, .op .xor_e, .op .xor_h, .op .xor_l, .op .xor_mhl, .op .xor_a],
  #v[.op .or_b, .op .or_c, .op .or_d, .op .or_e, .op .or_h, .op .or_l, .op .or_mhl, .op .or_a, .op .cp_b, .op .cp_c, .op .cp_d, .op .cp_e, .op .cp_h, .op .cp_l, .op .cp_mhl, .op .cp_a],
  #v[.op .ret_nz, .op .pop_bc, .imm16 .jp_nz_a16, .imm16 .jp_a16, .imm16 .call_nz_a16, .op .push_bc, .imm8 .add_a_d8, .op .rst_00h, .op .ret_z, .op .ret, .imm16 .jp_z_a16, .pageTwo, .imm16 .call_z_a16, .imm16 .call_a16, .imm8 .adc_a_d8, .op .rst_08h],
  #v[.op .ret_nc, .op .pop_de, .imm16 .jp_nc_a16, .op .illegal_d3, .imm16 .call_nc_a16, .op .push_de, .imm8 .sub_d8, .op .rst_10h, .op .ret_c, .op .reti, .imm16 .jp_c_a16, .op .illegal_db, .imm16 .call_c_a16, .op .illegal_dd, .imm8 .sbc_a_d8, .op .rst_18h],
  #v[.imm8 .ldh_ma8_a, .op .pop_hl, .op .ld_mc_a, .op .illegal_e3, .op .illegal_e4, .op .push_hl, .imm8 .and_d8, .op .rst_20h, .imm8 .add_sp_e8, .op .jp_hl, .imm16 .ld_ma16_a, .op .illegal_eb, .op .illegal_ec, .op .illegal_ed, .imm8 .xor_d8, .op .rst_28h],
  #v[.imm8 .ldh_a_ma8, .op .pop_af, .op .ld_a_mc, .op .di, .op .illegal_f4, .op .push_af, .imm8 .or_d8, .op .rst_30h, .imm8 .ld_hl_sp_e8, .op .ld_sp_hl, .imm16 .ld_a_ma16, .op .ei, .op .illegal_fc, .op .illegal_fd, .imm8 .cp_d8, .op .rst_38h]]

/-- The second page in rows of eight, operand order B, C, D, E, H, L, (HL), A (R164). -/
def secondPage : Vector (Vector Instr 8) 32 := #v[
  #v[.rlc_b, .rlc_c, .rlc_d, .rlc_e, .rlc_h, .rlc_l, .rlc_mhl, .rlc_a],
  #v[.rrc_b, .rrc_c, .rrc_d, .rrc_e, .rrc_h, .rrc_l, .rrc_mhl, .rrc_a],
  #v[.rl_b, .rl_c, .rl_d, .rl_e, .rl_h, .rl_l, .rl_mhl, .rl_a],
  #v[.rr_b, .rr_c, .rr_d, .rr_e, .rr_h, .rr_l, .rr_mhl, .rr_a],
  #v[.sla_b, .sla_c, .sla_d, .sla_e, .sla_h, .sla_l, .sla_mhl, .sla_a],
  #v[.sra_b, .sra_c, .sra_d, .sra_e, .sra_h, .sra_l, .sra_mhl, .sra_a],
  #v[.swap_b, .swap_c, .swap_d, .swap_e, .swap_h, .swap_l, .swap_mhl, .swap_a],
  #v[.srl_b, .srl_c, .srl_d, .srl_e, .srl_h, .srl_l, .srl_mhl, .srl_a],
  #v[.bit_0_b, .bit_0_c, .bit_0_d, .bit_0_e, .bit_0_h, .bit_0_l, .bit_0_mhl, .bit_0_a],
  #v[.bit_1_b, .bit_1_c, .bit_1_d, .bit_1_e, .bit_1_h, .bit_1_l, .bit_1_mhl, .bit_1_a],
  #v[.bit_2_b, .bit_2_c, .bit_2_d, .bit_2_e, .bit_2_h, .bit_2_l, .bit_2_mhl, .bit_2_a],
  #v[.bit_3_b, .bit_3_c, .bit_3_d, .bit_3_e, .bit_3_h, .bit_3_l, .bit_3_mhl, .bit_3_a],
  #v[.bit_4_b, .bit_4_c, .bit_4_d, .bit_4_e, .bit_4_h, .bit_4_l, .bit_4_mhl, .bit_4_a],
  #v[.bit_5_b, .bit_5_c, .bit_5_d, .bit_5_e, .bit_5_h, .bit_5_l, .bit_5_mhl, .bit_5_a],
  #v[.bit_6_b, .bit_6_c, .bit_6_d, .bit_6_e, .bit_6_h, .bit_6_l, .bit_6_mhl, .bit_6_a],
  #v[.bit_7_b, .bit_7_c, .bit_7_d, .bit_7_e, .bit_7_h, .bit_7_l, .bit_7_mhl, .bit_7_a],
  #v[.res_0_b, .res_0_c, .res_0_d, .res_0_e, .res_0_h, .res_0_l, .res_0_mhl, .res_0_a],
  #v[.res_1_b, .res_1_c, .res_1_d, .res_1_e, .res_1_h, .res_1_l, .res_1_mhl, .res_1_a],
  #v[.res_2_b, .res_2_c, .res_2_d, .res_2_e, .res_2_h, .res_2_l, .res_2_mhl, .res_2_a],
  #v[.res_3_b, .res_3_c, .res_3_d, .res_3_e, .res_3_h, .res_3_l, .res_3_mhl, .res_3_a],
  #v[.res_4_b, .res_4_c, .res_4_d, .res_4_e, .res_4_h, .res_4_l, .res_4_mhl, .res_4_a],
  #v[.res_5_b, .res_5_c, .res_5_d, .res_5_e, .res_5_h, .res_5_l, .res_5_mhl, .res_5_a],
  #v[.res_6_b, .res_6_c, .res_6_d, .res_6_e, .res_6_h, .res_6_l, .res_6_mhl, .res_6_a],
  #v[.res_7_b, .res_7_c, .res_7_d, .res_7_e, .res_7_h, .res_7_l, .res_7_mhl, .res_7_a],
  #v[.set_0_b, .set_0_c, .set_0_d, .set_0_e, .set_0_h, .set_0_l, .set_0_mhl, .set_0_a],
  #v[.set_1_b, .set_1_c, .set_1_d, .set_1_e, .set_1_h, .set_1_l, .set_1_mhl, .set_1_a],
  #v[.set_2_b, .set_2_c, .set_2_d, .set_2_e, .set_2_h, .set_2_l, .set_2_mhl, .set_2_a],
  #v[.set_3_b, .set_3_c, .set_3_d, .set_3_e, .set_3_h, .set_3_l, .set_3_mhl, .set_3_a],
  #v[.set_4_b, .set_4_c, .set_4_d, .set_4_e, .set_4_h, .set_4_l, .set_4_mhl, .set_4_a],
  #v[.set_5_b, .set_5_c, .set_5_d, .set_5_e, .set_5_h, .set_5_l, .set_5_mhl, .set_5_a],
  #v[.set_6_b, .set_6_c, .set_6_d, .set_6_e, .set_6_h, .set_6_l, .set_6_mhl, .set_6_a],
  #v[.set_7_b, .set_7_c, .set_7_d, .set_7_e, .set_7_h, .set_7_l, .set_7_mhl, .set_7_a]]

theorem byte_high_lt (b : Byte) : b.toNat / 16 < 16 := by have := b.isLt; omega

theorem byte_eighth_lt (b : Byte) : b.toNat / 8 < 32 := by have := b.isLt; omega

/-- The entry of a first byte (R155). -/
def firstPageEntry (b : Byte) : Entry :=
  (firstPage[b.toNat / 16]'(byte_high_lt b))[b.toNat % 16]'(Nat.mod_lt _ (by decide))

/-- The instruction of a second byte; all 256 are legal (R152, R164). -/
def secondPageInstr (b : Byte) : Instr :=
  (secondPage[b.toNat / 8]'(byte_eighth_lt b))[b.toNat % 8]'(Nat.mod_lt _ (by decide))

/-- Why a byte sequence is no instruction. -/
inductive DecodeError where
  | noBytes
  | truncated
  deriving DecidableEq, Repr

/-- The instruction at the head of `bs` and the bytes after it. A prefix byte with nothing behind it is the
table's own row for it (log 9). -/
def decode (bs : List Byte) : Except DecodeError (Instr × List Byte) :=
  match bs with
  | [] => .error .noBytes
  | b :: rest =>
    match firstPageEntry b, rest with
    | .op i, rest => .ok (i, rest)
    | .imm8 i, n :: rest => .ok (i n, rest)
    | .imm16 i, l :: h :: rest => .ok (i (mk16 h l), rest)
    | .pad i, _ :: rest => .ok (i, rest)
    | .pageTwo, op2 :: rest => .ok (secondPageInstr op2, rest)
    | .pageTwo, [] => .ok (.prefix_cb, [])
    | _, _ => .error .truncated

/-- The instruction the stepping engine runs on the bytes at PC, PC + 1 and PC + 2 (R155). Bytes beyond the
instruction's length are not looked at. -/
def decodeFetched (b0 b1 b2 : Byte) : Instr :=
  match firstPageEntry b0 with
  | .op i => i
  | .imm8 i => i b1
  | .imm16 i => i (mk16 b2 b1)
  | .pad i => i
  | .pageTwo => secondPageInstr b1

/-! ## Encoding -/

/-- Field codes (R156). -/
def Reg8.code : Reg8 → Nat
  | .b => 0 | .c => 1 | .d => 2 | .e => 3 | .h => 4 | .l => 5 | .a => 7

/-- `r8[z]` of a prefixed instruction: 6 is the byte at HL (R156). -/
def Target.code : Target → Nat
  | .reg r => r.code
  | .mem => 6

/-- Field codes (R157). -/
def Pair.code : Pair → Nat
  | .bc => 0 | .de => 1 | .hl => 2 | .sp => 3

/-- Field codes (R158). -/
def StackPair.code : StackPair → Nat
  | .bc => 0 | .de => 1 | .hl => 2 | .af => 3

/-- Field codes (R159). -/
def Cond.code : Cond → Nat
  | .nz => 0 | .z => 1 | .nc => 2 | .c => 3

/-- Field codes (R160). -/
def AluOp.code : AluOp → Nat
  | .add => 0 | .adc => 1 | .sub => 2 | .sbc => 3 | .and => 4 | .xor => 5 | .or => 6 | .cp => 7

/-- Field codes (R161). -/
def RotOp.code : RotOp → Nat
  | .rlc => 0 | .rrc => 1 | .rl => 2 | .rr => 3 | .sla => 4 | .sra => 5 | .swap => 6 | .srl => 7

/-- The opcode byte with fields x, y, z (R153). -/
def xyz (x y z : Nat) : Nat := 64 * x + 8 * y + z

/-- The combined opcode of the prefixed instruction with fields x, y, z (R152). -/
def cb (x y z : Nat) : Nat := 0xCB00 + xyz x y z

/-- The opcode of a shape, from the bit pattern its rule gives; a combined opcode on the second page. -/
def Form.opcode : Form → Nat
  | .nop => 0x00
  | .halt => 0x76
  | .stop => 0x10
  | .di => 0xF3
  | .ei => 0xFB
  | .ldRegReg dst src => xyz 1 dst.code src.code
  | .ldRegImm dst _ => xyz 0 dst.code 6
  | .ldRegMem dst => xyz 1 dst.code 6
  | .ldMemReg r => xyz 1 6 r.code
  | .ldMemImm _ => 0x36
  | .ldA .bc => 0x0A
  | .ldA .de => 0x1A
  | .ldA (.abs _) => 0xFA
  | .ldA (.high _) => 0xF0
  | .ldA .highC => 0xF2
  | .ldA .hlInc => 0x2A
  | .ldA .hlDec => 0x3A
  | .stA .bc => 0x02
  | .stA .de => 0x12
  | .stA (.abs _) => 0xEA
  | .stA (.high _) => 0xE0
  | .stA .highC => 0xE2
  | .stA .hlInc => 0x22
  | .stA .hlDec => 0x32
  | .ldPairImm p _ => xyz 0 (2 * p.code) 1
  | .ldAbsSp _ => 0x08
  | .ldSpHl => 0xF9
  | .ldHlSp _ => 0xF8
  | .push p => xyz 3 (2 * p.code) 5
  | .pop p => xyz 3 (2 * p.code) 1
  | .alu o (.reg r) => xyz 2 o.code r.code
  | .alu o .mem => xyz 2 o.code 6
  | .alu o (.imm _) => xyz 3 o.code 6
  | .incReg r => xyz 0 r.code 4
  | .decReg r => xyz 0 r.code 5
  | .incMem => 0x34
  | .decMem => 0x35
  | .daa => 0x27
  | .cpl => 0x2F
  | .scf => 0x37
  | .ccf => 0x3F
  | .incPair p => xyz 0 (2 * p.code) 3
  | .decPair p => xyz 0 (2 * p.code + 1) 3
  | .addHl p => xyz 0 (2 * p.code + 1) 1
  | .addSp _ => 0xE8
  | .accRot .rlca => 0x07
  | .accRot .rrca => 0x0F
  | .accRot .rla => 0x17
  | .accRot .rra => 0x1F
  | .rot o t => cb 0 o.code t.code
  | .bit k t => cb 1 k t.code
  | .res k t => cb 2 k t.code
  | .set k t => cb 3 k t.code
  | .jp _ => 0xC3
  | .jpCond cc _ => xyz 3 cc.code 2
  | .jpHl => 0xE9
  | .jr _ => 0x18
  | .jrCond cc _ => xyz 0 (4 + cc.code) 0
  | .call _ => 0xCD
  | .callCond cc _ => xyz 3 cc.code 4
  | .rst k => xyz 3 k 7
  | .ret => 0xC9
  | .retCond cc => xyz 3 cc.code 0
  | .reti => 0xD9
  | .pageTwo => 0xCB
  | .illegal b => b.toNat

/-- The bytes behind the opcode (R151): 16-bit immediates low byte first (R154); STOP's pad byte, whose value
is free, is written 0x00 (log 18). -/
def Form.immediates : Form → List Byte
  | .ldRegImm _ n => [n]
  | .ldMemImm n => [n]
  | .ldA (.abs w) => [lo w, hi w]
  | .ldA (.high n) => [n]
  | .stA (.abs w) => [lo w, hi w]
  | .stA (.high n) => [n]
  | .ldPairImm _ w => [lo w, hi w]
  | .ldAbsSp w => [lo w, hi w]
  | .ldHlSp e => [e]
  | .addSp e => [e]
  | .alu _ (.imm n) => [n]
  | .jp w => [lo w, hi w]
  | .jpCond _ w => [lo w, hi w]
  | .jr e => [e]
  | .jrCond _ e => [e]
  | .call w => [lo w, hi w]
  | .callCond _ w => [lo w, hi w]
  | .stop => [0#8]
  | _ => []

/-- The opcode number the tables of costs are keyed by (R8 `CYCLES`). -/
def Instr.opcode (i : Instr) : Nat := i.form.opcode

/-- The one or two bytes of an opcode number. -/
def opcodeBytes (n : Nat) : List Byte :=
  if n < 0x100 then [BitVec.ofNat 8 n] else [BitVec.ofNat 8 (n / 0x100), BitVec.ofNat 8 n]

/-- The bytes of an instruction, lowest address first. -/
def encode (i : Instr) : List Byte := opcodeBytes i.opcode ++ i.form.immediates

/-! ## The host's numbering of a row's bits -/

/-- The bytes of a table word. A 16-bit row of the table is a combined opcode with the prefix in bits 15 to 8
(R152); any other word has its first byte in bits 7 to 0 (log 10). -/
def tableBytes (nbits w : Nat) : List Byte :=
  if nbits = 16 ∧ w / 0x100 % 0x100 = 0xCB then [0xCB#8, BitVec.ofNat 8 w]
  else (List.range ((nbits + 7) / 8)).map fun k => BitVec.ofNat 8 (w / 0x100 ^ k)

/-- The row the decoder reads from a table word. The prefix row is its single byte (log 9); every other word
is followed by operand bytes of zero. -/
def decodeTableWord (nbits w : Nat) : Option Instr :=
  let bs := tableBytes nbits w
  match decode (if bs = [0xCB#8] then bs else bs ++ [0#8, 0#8]) with
  | .ok (i, _) => some i
  | .error _ => none

end Sys2Proof
end

