-- ==== Sys2Proof/Machine/State.lean ====
section
/-!
DEFINITION. The machine's state: every element of 10_state.md R30, and beside it the model's own fields that
stand for what surrounds the block: the parameters (R8), what the collaborators are known to answer, the calls
made to them, and the cycle count a step returns. Plain data only.
-/

namespace Sys2Proof.Machine

/-- The stepping engine's state (R41). -/
inductive RunState where
  | running | halted | stopped
  deriving DecidableEq, Repr

/-- UnimplementedOpcode(addr, byte), the one fatal condition (R58, R430). -/
structure FaultRecord where
  addr : Word
  byte : Byte
  deriving DecidableEq, Repr

/-- Storage bytes by cell number: a byte of bank `b` that the CPU sees at address `a` is cell
`b * 0x10000 + a` (log 17); banks are 0 but for the second video-RAM bank and work-RAM banks 1 to 7. The list
is strictly rising in its cell numbers and holds no byte equal to what an unlisted cell reads as. -/
abbrev Memory := List Host.Cell

/-- What a CPU address reaches at one moment (20_memory.md R81, R82). -/
inductive Backing where
  | boot (v : Byte)
  | cell (k : Nat)
  | ie
  | ask (q : Query)
  deriving DecidableEq, Repr

/-- The machine. IF, DIV, TIMA, TMA, TAC, the speed port and every other port of the I/O window are bytes of
`mem` (R40, R43 to R46, R51, R53 to R57). -/
structure State where
  /-- A, the accumulator (R31). -/
  a : Byte
  /-- B (R31). -/
  b : Byte
  /-- C (R31). -/
  c : Byte
  /-- D (R31). -/
  d : Byte
  /-- E (R31). -/
  e : Byte
  /-- H (R31). -/
  h : Byte
  /-- L (R31). -/
  l : Byte
  /-- F, the flags byte (R33, R34). -/
  f : Byte
  /-- PC (R36). -/
  pc : Word
  /-- SP (R37). -/
  sp : Word
  /-- IME, the master-enable flag (R38). -/
  ime : Bool
  /-- IE, the enable bitmask (R39). -/
  ie : Byte
  /-- RUN (R41). -/
  run : RunState
  /-- HSNAP, the halt snapshot (R42). -/
  hsnap : Byte
  /-- FAULT (R58). -/
  fault : Option FaultRecord
  /-- DIVACC, the divider cycle accumulator (R47). -/
  divAcc : Nat
  /-- TIMACC, the counter cycle accumulator (R48). -/
  timAcc : Nat
  /-- SPEED, the double-speed latch (R49). -/
  speed : Bool
  /-- SPEEDPEND, the pending-switch latch (R50). -/
  speedPend : Bool
  /-- BOOT_ON (R52). -/
  bootOn : Bool
  /-- VRAM, WRAM, OAM, the I/O port storage and HRAM (R57). -/
  mem : Memory
  /-- The parameters of R8; no step changes them (log 3). -/
  cfg : Config
  /-- MODEL'S OWN (log 4). The bytes the collaborators are known to answer now, by CPU address, rising. -/
  known : List Host.Cell
  /-- MODEL'S OWN (log 5). The calls made to collaborators, newest first. -/
  calls : List Call
  /-- MODEL'S OWN (log 4). Steps begun; the free answers depend on it. -/
  tick : Nat
  /-- MODEL'S OWN (log 12). The cycles the step in progress has accumulated (R400). -/
  elapsed : Nat
  /-- MODEL'S OWN (log 12). The value the last step returned; `none` before the first step and after the step
  that raised the fault (R400, R430). -/
  returned : Option Nat
  deriving DecidableEq, Repr

/-- No step of this machine ends in a fault outcome. The one fatal condition the spec has, UnimplementedOpcode,
is the state element FAULT (R58, R430, R431) and so a next state (log 8); Out-of-Range Access is unreachable
(R132). -/
inductive Fault where
  deriving DecidableEq, Repr

/-- Why the machine gives no next state. -/
inductive Refusal where
  /-- Raised by a dispatch arm without a meaning; there is none left. Safe. -/
  | notModelled (mnemonic : String)
  /-- Raised by the stepping engine when an interrupt would be served while IME = 0 and the parameter
  IME_BYPASS_POLICY is `refuse`: the execution "lies outside the model" (R406). Safe. -/
  | imeBypass
  deriving DecidableEq, Repr

/-- What a meaning or a step answers. -/
abbrev Result := Host.Outcome State Fault Refusal

/-- The state after `reset()` (R60, R480) on a machine with parameters `cfg`, outside whose boundary nothing
is known and nothing has been called. The elements R60 leaves unspecified (A to L, the four flags, SP, the RAM
arrays) are zero (log 1, log 2). -/
def State.resetWith (cfg : Config) : State where
  a := 0
  b := 0
  c := 0
  d := 0
  e := 0
  h := 0
  l := 0
  f := 0
  pc := 0x0000
  sp := 0
  ime := false
  ie := 0
  run := .running
  hsnap := 0
  fault := none
  divAcc := 0
  timAcc := 0
  speed := false
  speedPend := false
  bootOn := cfg.bootRanges.any fun r => decide (r.1 < r.2)
  mem := []
  cfg := cfg
  known := []
  calls := []
  tick := 0
  elapsed := 0
  returned := none

/-- The machine right after reset, with the spec's default parameters (R8, R60, R480). -/
def State.reset : State := State.resetWith (Config.defaults false)

end Sys2Proof.Machine
end

