-- ==== Sys2Proof/Machine/Cycles.lean ====
section
/-!
DEFINITION. Cycle costs: the default table of the parameter CYCLES (30_encoding.md R166) in the grid's own
layout, the constants the source fixes (00_scope.md R8), and how a meaning adds its cost to the step's count.
-/

namespace Sys2Proof.Machine

/-- A cost that does not depend on the outcome. -/
def flat (n : Nat) : Cost := ⟨n, n⟩

/-- Rows 4x to 6x and 8x to Bx: 4, but 8 in the (HL) columns x6 and xE. -/
def regRow : List Cost :=
  [4, 4, 4, 4, 4, 4, 8, 4, 4, 4, 4, 4, 4, 4, 8, 4].map flat

/-- The first page by high nibble; `⟨0, 0⟩` where the grid has no cost (prefix, illegal). -/
def firstPageCost : List (List Cost) := [
  [4, 12, 8, 8, 4, 4, 8, 4, 20, 8, 8, 8, 4, 4, 8, 4].map flat,
  [4, 12, 8, 8, 4, 4, 8, 4, 12, 8, 8, 8, 4, 4, 8, 4].map flat,
  ⟨8, 12⟩ :: [12, 8, 8, 4, 4, 8, 4].map flat ++ ⟨8, 12⟩ :: [8, 8, 8, 4, 4, 8, 4].map flat,
  ⟨8, 12⟩ :: [12, 8, 8, 12, 12, 12, 4].map flat ++ ⟨8, 12⟩ :: [8, 8, 8, 4, 4, 8, 4].map flat,
  regRow,
  regRow,
  regRow,
  [8, 8, 8, 8, 8, 8, 4, 8, 4, 4, 4, 4, 4, 4, 8, 4].map flat,
  regRow,
  regRow,
  regRow,
  regRow,
  [⟨8, 20⟩, flat 12, ⟨12, 16⟩, flat 16, ⟨12, 24⟩, flat 16, flat 8, flat 16,
    ⟨8, 20⟩, flat 16, ⟨12, 16⟩, flat 0, ⟨12, 24⟩, flat 24, flat 8, flat 16],
  [⟨8, 20⟩, flat 12, ⟨12, 16⟩, flat 0, ⟨12, 24⟩, flat 16, flat 8, flat 16,
    ⟨8, 20⟩, flat 16, ⟨12, 16⟩, flat 0, ⟨12, 24⟩, flat 0, flat 8, flat 16],
  [12, 12, 8, 0, 0, 16, 8, 16, 16, 4, 16, 0, 0, 0, 8, 16].map flat,
  [12, 12, 8, 4, 0, 16, 8, 16, 12, 8, 16, 4, 0, 0, 8, 16].map flat]

/-- The second page: 8 on a register; on (HL) 12 for BIT and 16 otherwise. -/
def secondPageCost (op2 : Nat) : Cost :=
  if op2 % 8 = 6 then (if op2 / 64 = 1 then flat 12 else flat 16) else flat 8

/-- The default table, keyed by combined opcode. -/
def defaultCost (op : Nat) : Cost :=
  if op < 0x100 then (firstPageCost.getD (op / 16) []).getD (op % 16) (flat 0) else secondPageCost (op % 0x100)

/-- The entry of an opcode in the list of costs that differ from the default. -/
def costFind : List (Nat × Cost) → Nat → Option Cost
  | [], _ => none
  | (j, x) :: m, k => if k = j then some x else costFind m k

/-- The parameter CYCLES at one opcode and outcome (R8). -/
def cyclesOf (c : Config) (op : Nat) (taken : Bool) : Nat :=
  let x := (costFind c.cycles op).getD (defaultCost op)
  if taken then x.taken else x.notTaken

/-- Cost of one interrupt service (R8). -/
def serviceCycles : Nat := 20

/-- Cost of one halted tick (R8). -/
def haltTickCycles : Nat := 4

/-- The wake penalty (R8). -/
def wakeCycles : Nat := 4

/-- `elapsed <- elapsed + n` (R400). -/
def State.addCycles (s : State) (n : Nat) : State := { s with elapsed := s.elapsed + n }

/-- `cycles <- …` of a handler: the cost of opcode `op`. -/
def State.spend (s : State) (op : Nat) (taken : Bool) : State := s.addCycles (cyclesOf s.cfg op taken)

/-- A handler that completes: its state change with the cost of its opcode added. The cost of an opcode that is no
conditional transfer is the not-taken component of its CYCLES entry, for JP, JR e8, CALL, RET, RETI and RST too.
R166 makes it a function of the opcode alone and does not say which component counts where the two differ
(DESIGN CHOICE of log 25, unsafe for such an override; in the default table they are equal). -/
def done (op : Nat) (s : State) : Result := .next (s.spend op false)

/-- A conditional transfer: what happens and what it costs depend on whether it is taken (R343). -/
def branch (op : Nat) (taken : Bool) (yes no : State) : Result :=
  if taken then .next (yes.spend op true) else .next (no.spend op false)

end Sys2Proof.Machine
end

