-- ==== Sys2Proof/Machine/Ops.lean ====
section
/-!
DEFINITION. The named operations over registers and memory: the register file and its views (10_state.md), the
storage cells, the memory router (20_memory.md R100, R101), the two stack primitives (41_load16_stack.md R230,
R231), and taking an exception: the fatal condition (R430) and the interrupt service (R410, R411), with the
return (R341) beside them. Every instruction and the stepping engine go through these.
-/

namespace Sys2Proof.Machine

/-! ## Register file (10_state.md R31, R32) -/

/-- `r8[i]`. -/
def State.getReg (s : State) : Reg8 → Byte
  | .b => s.b
  | .c => s.c
  | .d => s.d
  | .e => s.e
  | .h => s.h
  | .l => s.l
  | .a => s.a

/-- `r8[i] <- v`. -/
def State.setReg (s : State) (r : Reg8) (v : Byte) : State :=
  match r with
  | .b => { s with b := v }
  | .c => { s with c := v }
  | .d => { s with d := v }
  | .e => { s with e := v }
  | .h => { s with h := v }
  | .l => { s with l := v }
  | .a => { s with a := v }

/-- The view BC = {B, C}. -/
def State.bc (s : State) : Word := mk16 s.b s.c

/-- The view DE = {D, E}. -/
def State.de (s : State) : Word := mk16 s.d s.e

/-- The view HL = {H, L}. -/
def State.hl (s : State) : Word := mk16 s.h s.l

/-- The view AF = {A, F}. -/
def State.af (s : State) : Word := mk16 s.a s.f

/-- A write of HL. -/
def State.setHl (s : State) (w : Word) : State := { s with h := hi w, l := lo w }

/-- `rp[p]` (R157). -/
def State.getPair (s : State) : Pair → Word
  | .bc => s.bc
  | .de => s.de
  | .hl => s.hl
  | .sp => s.sp

/-- `rp[p] <- w`. -/
def State.setPair (s : State) (p : Pair) (w : Word) : State :=
  match p with
  | .bc => { s with b := hi w, c := lo w }
  | .de => { s with d := hi w, e := lo w }
  | .hl => { s with h := hi w, l := lo w }
  | .sp => { s with sp := w }

/-- `rp2[p]` (R158). -/
def State.getStackPair (s : State) : StackPair → Word
  | .bc => s.bc
  | .de => s.de
  | .hl => s.hl
  | .af => s.af

/-- `rp2[p] <- w`; a write of AF forces the low nibble of F to 0 (R32, R33, R237). -/
def State.setStackPair (s : State) (p : StackPair) (w : Word) : State :=
  match p with
  | .bc => { s with b := hi w, c := lo w }
  | .de => { s with d := hi w, e := lo w }
  | .hl => { s with h := hi w, l := lo w }
  | .af => { s with a := hi w, f := lo w &&& 0xF0#8 }

/-- `PC <- u16(pc + n)`. -/
def State.advance (s : State) (n : Nat) : State := { s with pc := s.pc + BitVec.ofNat 16 n }

/-- A jump. -/
def State.setPc (s : State) (w : Word) : State := { s with pc := w }

/-! ## Storage cells (R57; log 2, log 17) -/

/-- What a storage byte that nothing has written reads as: the reset value of the I/O bytes (R60), and this
model's choice for the RAM arrays (log 2). -/
def Memory.fill : Byte := 0x00#8

/-- The byte in cell `k`. -/
def Memory.read : Memory → Nat → Byte
  | [], _ => Memory.fill
  | (j, v) :: m, k => if k = j then v else Memory.read m k

/-- Cell `k` set to `v`, in canonical form. -/
def Memory.write : Memory → Nat → Byte → Memory
  | [], k, v => if v = Memory.fill then [] else [(k, v)]
  | (j, w) :: m, k, v =>
    if k < j then (if v = Memory.fill then (j, w) :: m else (k, v) :: (j, w) :: m)
    else if k = j then (if v = Memory.fill then m else (k, v) :: m)
    else (j, w) :: Memory.write m k v

/-- The canonical form: cell numbers strictly rising, no byte equal to the fill. -/
def Memory.wf : Memory → Bool
  | [] => true
  | (j, v) :: m => (v != Memory.fill) && m.all (fun x => decide (j < x.1)) && Memory.wf m

/-- The entry of a rising list of known bytes. -/
def cellsFind : List Host.Cell → Nat → Option Byte
  | [], _ => none
  | (j, v) :: m, k => if k = j then some v else cellsFind m k

/-- The byte at `k` made known, in rising order. -/
def cellsPut : List Host.Cell → Nat → Byte → List Host.Cell
  | [], k, v => [(k, v)]
  | (j, w) :: m, k, v =>
    if k < j then (k, v) :: (j, w) :: m
    else if k = j then (k, v) :: m
    else (j, w) :: cellsPut m k v

/-- Addresses strictly rising: the canonical form of a partial map. -/
def cellsRising : List Host.Cell → Bool
  | [] => true
  | (j, _) :: m => m.all (fun x => decide (j < x.1)) && cellsRising m

/-- A direct write of a storage cell, without side effects. -/
def State.store (s : State) (k : Nat) (v : Byte) : State := { s with mem := s.mem.write k v }

/-- `IO[p]` as stored, the bypass read of R119. -/
def State.io (s : State) (p : Nat) : Byte := s.mem.read (0xFF00 + p)

/-- `IO[p] <- v`, the direct write of R119. -/
def State.setIo (s : State) (p : Nat) (v : Byte) : State := s.store (0xFF00 + p) v

/-- IF, the request bitmask (R40). -/
def State.ifReg (s : State) : Byte := s.io 0x0F

/-! ## Parameters as functions (R8) -/

/-- A member of a set of addresses. -/
def inRanges (rs : List (Nat × Nat)) (n : Nat) : Bool :=
  rs.any fun r => decide (r.1 ≤ n) && decide (n < r.2)

/-- `BOOT_ROM(n)`, a partial map; contents the parameters do not give are free (log 3). -/
def bootRom (c : Config) (n : Nat) : Option Byte :=
  if inRanges c.bootRanges n then some ((cellsFind c.bootBytes n).getD (Config.bootContents n)) else none

/-- `vbank` (R53). -/
def State.vbank (s : State) : Nat := if s.cfg.cgbMode then (s.io 0x4F).toNat % 2 else 0

/-- `wbank` (R54). -/
def State.wbank (s : State) : Nat := if s.cfg.cgbMode then max 1 ((s.io 0x70).toNat % 8) else 1

/-! ## The outside (R95 to R99) -/

/-- The collaborator's answer to `q`, asked by an access at CPU address `a`: the byte it is known to give, else a
free one (log 4, log 7). -/
def State.answer (s : State) (a : Word) (q : Query) : Byte :=
  (cellsFind s.known a.toNat).getD (Config.outside q s.tick s.calls)

/-- The addresses whose known answers a call may change: those its own collaborator answers (R95, R96, R98). -/
def callTouches (c : Config) (k : Call) (n : Nat) : Bool :=
  match k with
  | .romWrite _ _ => decide (n < 0x8000) || (decide (0xA000 ≤ n) && decide (n < 0xC000))
  | .xramWrite _ _ => decide (n < 0x8000) || (decide (0xA000 ≤ n) && decide (n < 0xC000))
  | .audioWrite _ _ => inRanges c.audioOwned n
  | .videoWrite _ _ => inRanges c.videoOwned n
  | .hdma _ => false

/-- A call to a collaborator: it is recorded, and what it may change is no longer known (log 5). It changes no
state of the block (R95, R98). -/
def State.callOut (s : State) (k : Call) : State :=
  { s with calls := k :: s.calls, known := s.known.filter fun x => !callTouches s.cfg k x.1 }

/-! ## The memory router -/

/-- The echo mirror's address, reduced to work RAM (R107). -/
def unecho (n : Nat) : Nat := if 0xE000 ≤ n ∧ n < 0xFE00 then n - 0x2000 else n

/-- The cell of a video-RAM address (R104). -/
def State.vramCell (s : State) (n : Nat) : Nat := s.vbank * 0x10000 + n

/-- The cell of a work-RAM address in [0xC000, 0xE000) (R106). -/
def State.wramCell (s : State) (n : Nat) : Nat := if n < 0xD000 then n else s.wbank * 0x10000 + n

/-- The backing store a read of address `a` reaches (R81, R82; the lines of R100 in order). -/
def State.backing (s : State) (a : Word) : Backing :=
  let n := a.toNat
  match (if s.bootOn then bootRom s.cfg n else none) with
  | some v => .boot v
  | none =>
    if n < 0x8000 then .ask (.rom a)
    else if n < 0xA000 then .cell (s.vramCell n)
    else if n < 0xC000 then .ask (.xram a)
    else if n < 0xFE00 then .cell (s.wramCell (unecho n))
    else if n < 0xFEA0 then .cell n
    else if n < 0xFF00 then .ask (.gap a)
    else if n = 0xFF00 then .ask (.input (s.io 0x00))
    else if inRanges s.cfg.audioOwned n then .ask (.audio a)
    else if inRanges s.cfg.videoOwned n then .ask (.video a)
    else if n < 0xFFFF then .cell n
    else .ie

/-- `MemRead(a)` (R100). It changes no state. -/
def State.memRead (s : State) (a : Word) : Byte :=
  match s.backing a with
  | .boot v => v
  | .cell k => s.mem.read k
  | .ie => s.ie
  | .ask q => s.answer a q

/-- `MemRead(a, 2)` (R121). -/
def State.memRead16 (s : State) (a : Word) : Word := mk16 (s.memRead (a + 1)) (s.memRead a)

/-- Step `i` of the DMA copy: `OAM[i] <- MemRead(u16((v << 8) + i))` (R114). -/
def State.dmaByte (v : Byte) (s : State) (i : Nat) : State :=
  s.store (0xFE00 + i) (s.memRead (mk16 v 0#8 + BitVec.ofNat 16 i))

/-- The DMA copy: 160 bytes in ascending order (R114). -/
def State.dmaCopy (s : State) (v : Byte) : State := (List.range 160).foldl (State.dmaByte v) s

/-- One video-RAM byte written by the HDMA collaborator. -/
def State.hdmaByte (s : State) (x : BitVec 1 × BitVec 13 × BitVec 8) : State :=
  s.store (x.1.toNat * 0x10000 + 0x8000 + x.2.1.toNat) x.2.2

/-- `request_hdma_transfer(v)`: the call, and its free effect on video RAM (R99; log 6). -/
def State.requestHdma (s : State) (v : Byte) : State :=
  let t := s.callOut (.hdma v)
  (Config.hdmaWrites t.tick t.calls).foldl State.hdmaByte t

/-- `IO[0x00]`, which `read_input` takes as its argument, may have changed: what was known of the input device's
answer was said of the old value and lapses (R97; DESIGN CHOICE of log 27, safe). -/
def State.forgetInput (s : State) : State := { s with known := s.known.filter fun x => x.1 != 0xFF00 }

/-- A write of the joypad port keeps the select bits only (R111), and the answer known there lapses (log 27). -/
def State.writeJoypad (s : State) (v : Byte) : State := (s.setIo 0x00 (v &&& 0x30#8)).forgetInput

/-- `MemWrite(a, v)` (the lines of R101 in order). -/
def State.memWrite (s : State) (a : Word) (v : Byte) : State :=
  let n := a.toNat
  if n < 0x8000 then s.callOut (.romWrite a v)
  else if n < 0xA000 then s.store (s.vramCell n) v
  else if n < 0xC000 then s.callOut (.xramWrite a v)
  else if n < 0xFE00 then s.store (s.wramCell (unecho n)) v
  else if n < 0xFEA0 then s.store n v
  else if n < 0xFF00 then s
  else if n = 0xFF00 then s.writeJoypad v
  else if n = 0xFF04 then s.setIo 0x04 0x00#8
  else if n = 0xFF46 then (s.setIo 0x46 v).dmaCopy v
  else if n = 0xFF50 then { s.setIo 0x50 v with bootOn := false }
  else if n = 0xFF55 ∧ s.cfg.cgbMode then (s.setIo 0x55 v).requestHdma v
  else if inRanges s.cfg.audioOwned n then s.callOut (.audioWrite a v)
  else if inRanges s.cfg.videoOwned n then s.callOut (.videoWrite a v)
  else if n < 0xFFFF then s.store n v
  else { s with ie := v }

/-- `MemWrite(a, 2, w)` (R121). -/
def State.memWrite16 (s : State) (a : Word) (w : Word) : State :=
  (s.memWrite a (lo w)).memWrite (a + 1) (hi w)

/-- The cells a `MemWrite` at `a` may change in state `s`. -/
def State.writesCell (s : State) (a : Word) (k : Nat) : Bool :=
  let n := a.toNat
  if n < 0x8000 then false
  else if n < 0xA000 then k == s.vramCell n
  else if n < 0xC000 then false
  else if n < 0xFE00 then k == s.wramCell (unecho n)
  else if n < 0xFEA0 then k == n
  else if n < 0xFF00 then false
  else if n = 0xFF46 then k == 0xFF46 || (decide (0xFE00 ≤ k) && decide (k < 0xFEA0))
  else if n = 0xFF55 ∧ s.cfg.cgbMode then
    k == 0xFF55 || (decide (0x8000 ≤ k % 0x10000) && decide (k % 0x10000 < 0xA000) && decide (k < 0x20000))
  else if n = 0xFF00 ∨ n = 0xFF04 ∨ n = 0xFF50 then k == n
  else if inRanges s.cfg.audioOwned n then false
  else if inRanges s.cfg.videoOwned n then false
  else if n < 0xFFFF then k == n
  else false

/-! ## The stack (R230, R231) -/

/-- `push16(w)`. -/
def State.push16 (s : State) (w : Word) : State :=
  let t := (s.memWrite (s.sp - 1) (hi w)).memWrite (s.sp - 2) (lo w)
  { t with sp := s.sp - 2 }

/-- The value `pop16()` reads. -/
def State.popValue (s : State) : Word := s.memRead16 s.sp

/-- The stack pointer after `pop16()`. -/
def State.dropWord (s : State) : State := { s with sp := s.sp + 2 }

/-! ## Exceptions (60_exceptions.md) -/

/-- `raise UnimplementedOpcode(pc, b)`: FAULT is recorded and nothing else changes (R430). -/
def State.raiseUnimplemented (s : State) (b : Byte) : State := { s with fault := some ⟨s.pc, b⟩ }

/-- `pending()`: the lowest-numbered bit set in both IE and IF, of bits 0 to 4 (R410). -/
def State.pending (s : State) : Option (Fin 5) :=
  let m := s.ie &&& s.ifReg
  if m.getLsbD 0 then some 0
  else if m.getLsbD 1 then some 1
  else if m.getLsbD 2 then some 2
  else if m.getLsbD 3 then some 3
  else if m.getLsbD 4 then some 4
  else none

/-- The vector of source `k`: 0x0040 + 8 * k (R413). -/
def vector (k : Fin 5) : Word := BitVec.ofNat 16 (0x0040 + 8 * k)

/-- The mask of bit `k` of IE and IF (R413). -/
def sourceMask (k : Fin 5) : Byte := BitVec.ofNat 8 (2 ^ (k : Nat))

/-- `serve(k)`: IME cleared, a halt ended, PC pushed, the request bit cleared, PC at the vector (R411). -/
def State.serve (s : State) (k : Fin 5) : State :=
  let t := { s with ime := false, run := if s.run = RunState.halted then .running else s.run }
  let t := t.push16 t.pc
  (t.setIo 0x0F (t.ifReg &&& ~~~ sourceMask k)).setPc (vector k)

/-- `PC <- pop16()` (R337). -/
def State.returnFrom (s : State) : State := s.dropWord.setPc s.popValue

/-- The return of an interrupt handler: PC popped and IME set; nothing else was saved (R341). -/
def State.returnFromInterrupt (s : State) : State := { s.returnFrom with ime := true }

end Sys2Proof.Machine
end

