-- ==== Sys2Proof/Machine/Flags.lean ====
section
/-!
DEFINITION. The flags byte and every flag computation: the four flags (10_state.md R34), the arithmetic and
logic functions with their flags (42_alu8.md R246 to R249, R280), the 16-bit additions (43_alu16.md R293, R294)
and the rotates and shifts (44_rotate_shift_bit.md R300 to R317).
-/

namespace Sys2Proof.Machine

/-- The four flags as values (R34). -/
structure Flags where
  z : Bool
  n : Bool
  h : Bool
  c : Bool
  deriving DecidableEq, Repr

/-- FZ = F[7] (R34). -/
def State.fz (s : State) : Bool := s.f.getLsbD 7

/-- FN = F[6] (R34). -/
def State.fn (s : State) : Bool := s.f.getLsbD 6

/-- FH = F[5] (R34). -/
def State.fh (s : State) : Bool := s.f.getLsbD 5

/-- FC = F[4] (R34). -/
def State.fc (s : State) : Bool := s.f.getLsbD 4

/-- Bits 7 to 4 of F, low nibble 0 (R33, R34). -/
def Flags.byte (x : Flags) : Byte :=
  BitVec.ofBool x.z ++ BitVec.ofBool x.n ++ BitVec.ofBool x.h ++ BitVec.ofBool x.c ++ 0#4

/-- A write of the flags writes "only bits 7 to 4" of F (R33; log 15). -/
def State.setFlags (s : State) (x : Flags) : State := { s with f := x.byte ||| (s.f &&& 0x0F#8) }

/-! ## 8-bit arithmetic and logic -/

/-- A carry as a 9-bit number. -/
def carry9 (c : Bool) : BitVec 9 := (BitVec.ofBool c).setWidth 9

/-- `add8(a, b, cin)` by the XOR method at 9 bits (R246). -/
def add8 (a b : Byte) (cin : Bool) : Byte × Flags :=
  let raw := a.setWidth 9 + b.setWidth 9 + carry9 cin
  let x := a.setWidth 9 ^^^ b.setWidth 9 ^^^ raw
  let res := raw.setWidth 8
  (res, ⟨res == 0#8, false, x.getLsbD 4, x.getLsbD 8⟩)

/-- `sub8(a, b, cin)` by the XOR method at 9 bits (R247). -/
def sub8 (a b : Byte) (cin : Bool) : Byte × Flags :=
  let raw := a.setWidth 9 - b.setWidth 9 - carry9 cin
  let x := a.setWidth 9 ^^^ b.setWidth 9 ^^^ raw
  let res := raw.setWidth 8
  (res, ⟨res == 0#8, true, x.getLsbD 4, x.getLsbD 8⟩)

/-- `AND` (R248, R262). -/
def and8 (a b : Byte) : Byte × Flags := (a &&& b, ⟨a &&& b == 0#8, false, true, false⟩)

/-- `XOR` (R248, R265). -/
def xor8 (a b : Byte) : Byte × Flags := (a ^^^ b, ⟨a ^^^ b == 0#8, false, false, false⟩)

/-- `OR` (R248, R268). -/
def or8 (a b : Byte) : Byte × Flags := (a ||| b, ⟨a ||| b == 0#8, false, false, false⟩)

/-- The result and the flags of an ALU operation on A = `a`, operand `b` and carry `c`; CP computes as SUB
(R250 to R273). -/
def aluResult (o : AluOp) (a b : Byte) (c : Bool) : Byte × Flags :=
  match o with
  | .add => add8 a b false
  | .adc => add8 a b c
  | .sub => sub8 a b false
  | .sbc => sub8 a b c
  | .and => and8 a b
  | .xor => xor8 a b
  | .or => or8 a b
  | .cp => sub8 a b false

/-- `inc8(v)`; `c` is the carry it leaves untouched (R249). -/
def inc8 (v : Byte) (c : Bool) : Byte × Flags :=
  (v + 1#8, ⟨v + 1#8 == 0#8, false, v &&& 0x0F#8 == 0x0F#8, c⟩)

/-- `dec8(v)`; `c` is the carry it leaves untouched (R249). -/
def dec8 (v : Byte) (c : Bool) : Byte × Flags :=
  (v - 1#8, ⟨v - 1#8 == 0#8, true, v &&& 0x0F#8 == 0x00#8, c⟩)

/-- The adjusted A and the flags of DAA, from A and the flags before (R280). -/
def daa8 (a : Byte) (x : Flags) : Byte × Flags :=
  if x.n then
    let adj := (if x.c then 0x60#8 else 0#8) ||| (if x.h then 0x06#8 else 0#8)
    (a - adj, ⟨a - adj == 0#8, true, false, x.c⟩)
  else
    let carry := x.c || decide (0x99 < a.toNat)
    let adj := (if carry then 0x60#8 else 0#8)
      ||| (if x.h || decide (0x09 < (a &&& 0x0F#8).toNat) then 0x06#8 else 0#8)
    (a + adj, ⟨a + adj == 0#8, false, false, carry⟩)

/-! ## 16-bit additions -/

/-- `ADD HL,rr`: sum, and FH, FC as carries out of bits 11 and 15; `z` is the flag it leaves untouched (R293). -/
def addHl16 (a b : Word) (z : Bool) : Word × Flags :=
  (a + b, ⟨z, false, decide (0x0FFF < (a &&& 0x0FFF#16).toNat + (b &&& 0x0FFF#16).toNat),
    decide (0xFFFF < a.toNat + b.toNat)⟩)

/-- `sext_16(b)` (00_scope.md R9). -/
def sext16 (b : Byte) : Word := b.signExtend 16

/-- `SP + e8`: sum, and FH, FC from the unsigned addition of the low byte and the raw byte (R235, R294). -/
def addSp16 (s : Word) (e : Byte) : Word × Flags :=
  (s + sext16 e, ⟨false, false, decide (0x0F < (s &&& 0x000F#16).toNat + (e &&& 0x0F#8).toNat),
    decide (0xFF < (s &&& 0x00FF#16).toNat + e.toNat)⟩)

/-! ## Rotates and shifts -/

/-- A carry as a byte, in bit 0. -/
def carry8 (c : Bool) : Byte := (BitVec.ofBool c).setWidth 8

/-- `f(v, FC)` of a rotate or shift: the result and the bit shifted out; SWAP shifts none out and clears FC
(R310 to R317). -/
def rotate (o : RotOp) (v : Byte) (cin : Bool) : Byte × Bool :=
  match o with
  | .rlc => ((v <<< 1) ||| carry8 (v.getLsbD 7), v.getLsbD 7)
  | .rrc => ((v >>> 1) ||| (carry8 (v.getLsbD 0) <<< 7), v.getLsbD 0)
  | .rl => ((v <<< 1) ||| carry8 cin, v.getLsbD 7)
  | .rr => ((v >>> 1) ||| (carry8 cin <<< 7), v.getLsbD 0)
  | .sla => (v <<< 1, v.getLsbD 7)
  | .sra => ((v >>> 1) ||| (v &&& 0x80#8), v.getLsbD 0)
  | .swap => (((v <<< 4) &&& 0xF0#8) ||| (v >>> 4), false)
  | .srl => (v >>> 1, v.getLsbD 0)

/-- The result and the flags of a prefixed rotate or shift: FZ from the result (R304). -/
def rotateFlags (o : RotOp) (v : Byte) (cin : Bool) : Byte × Flags :=
  let r := rotate o v cin
  (r.1, ⟨r.1 == 0#8, false, false, r.2⟩)

/-- The operation an accumulator rotate shares with the prefixed page (R300 to R303). -/
def accOp : AccRot → RotOp
  | .rlca => .rlc
  | .rrca => .rrc
  | .rla => .rl
  | .rra => .rr

/-- The result and the flags of an accumulator rotate: FZ is cleared whatever the result (R304). -/
def accRotateFlags (o : AccRot) (v : Byte) (cin : Bool) : Byte × Flags :=
  let r := rotate (accOp o) v cin
  (r.1, ⟨false, false, false, r.2⟩)

/-- The flags of BIT: FZ = 1 iff the tested bit is 0; `c` is the carry it leaves untouched (R320). -/
def bitFlags (k : BitIndex) (v : Byte) (c : Bool) : Flags := ⟨!v.getLsbD k, false, true, c⟩

/-- The mask `1 << b` (R322, R324). -/
def bitMask (k : BitIndex) : Byte := 1#8 <<< (k : Nat)

/-- Bit `k` cleared (R322). -/
def clearBit (k : BitIndex) (v : Byte) : Byte := v &&& ~~~ bitMask k

/-- Bit `k` set (R324). -/
def setBit (k : BitIndex) (v : Byte) : Byte := v ||| bitMask k

/-- The flags as values. -/
def State.flags (s : State) : Flags := ⟨s.fz, s.fn, s.fh, s.fc⟩

end Sys2Proof.Machine
end

