-- ==== Sys2Proof/Machine/Operands.lean ====
section
/-!
DEFINITION. Every operand form: conditions (30_encoding.md R159), the second operand of the ALU instructions
(42_alu8.md), the register-or-(HL) operand of the prefixed page (44_rotate_shift_bit.md), the addresses A is
loaded from and stored to (40_load8.md), branch targets (45_control.md R343), and the templates that
instructions of one operand form share.
-/

namespace Sys2Proof.Machine

/-- `cond(cc)` (R159). -/
def State.cond (s : State) : Cond → Bool
  | .nz => !s.fz
  | .z => s.fz
  | .nc => !s.fc
  | .c => s.fc

/-- The second operand of an ALU instruction: `r8[z]`, `MemRead(HL)` or `d8`. -/
def State.source (s : State) : Source → Byte
  | .reg r => s.getReg r
  | .mem => s.memRead s.hl
  | .imm n => n

/-- The value of a prefixed instruction's operand: `r8[z]`, or the byte read at HL. -/
def State.target (s : State) : Target → Byte
  | .reg r => s.getReg r
  | .mem => s.memRead s.hl

/-- A prefixed instruction's operand written back: `r8[z]`, or one write at HL. -/
def State.setTarget (s : State) (t : Target) (v : Byte) : State :=
  match t with
  | .reg r => s.setReg r v
  | .mem => s.memWrite s.hl v

/-- `0xFF00 + a8` (R154). -/
def highAddr (n : Byte) : Word := mk16 0xFF#8 n

/-- The address of A's byte in memory, before any increment or decrement of HL (R205 to R218). -/
def State.placeAddr (s : State) : Place → Word
  | .bc => s.bc
  | .de => s.de
  | .abs w => w
  | .high n => highAddr n
  | .highC => highAddr s.c
  | .hlInc => s.hl
  | .hlDec => s.hl

/-- The update of HL that (HL+) and (HL-) make after the access (R215 to R218). -/
def State.placeStep (s : State) : Place → State
  | .hlInc => s.setHl (s.hl + 1)
  | .hlDec => s.setHl (s.hl - 1)
  | .bc => s
  | .de => s
  | .abs _ => s
  | .high _ => s
  | .highC => s

/-- The target of a relative jump: `u16(pc + 2 + signed8(e8))` (R343). -/
def State.relative (s : State) (e : Byte) : Word := s.pc + 2 + sext16 e

/-- The address following a full instruction of `n` bytes (R343). -/
def State.following (s : State) (n : Nat) : Word := s.pc + BitVec.ofNat 16 n

/-- The fixed target of RST (R162, R342). -/
def rstTarget (k : BitIndex) : Word := BitVec.ofNat 16 (8 * (k : Nat))

end Sys2Proof.Machine
end

