-- ==== Sys2Proof/Machine/Alu16.lean ====
section
/-!
DEFINITION. 16-bit arithmetic instructions (43_alu16.md R290 to R294).
-/

namespace Sys2Proof.Machine

/-- `INC rr` (R290). -/
def incPair (p : Pair) (s : State) : State := (s.setPair p (s.getPair p + 1)).advance 1

/-- `DEC rr` (R291). -/
def decPair (p : Pair) (s : State) : State := (s.setPair p (s.getPair p - 1)).advance 1

/-- `ADD HL,rr` (R293). -/
def addHl (p : Pair) (s : State) : State :=
  ((s.setHl (addHl16 s.hl (s.getPair p) s.fz).1).setFlags (addHl16 s.hl (s.getPair p) s.fz).2).advance 1

/-- `ADD SP,e8` (R294). -/
def addSp (e : Byte) (s : State) : State :=
  ({ s with sp := (addSp16 s.sp e).1 }.setFlags (addSp16 s.sp e).2).advance 2

/-! ## The meanings -/

/-- `INC BC` (R290). -/
def exec_inc_bc (s : State) : Result := done 0x03 (incPair .bc s)

/-- `ADD HL,BC` (R293). -/
def exec_add_hl_bc (s : State) : Result := done 0x09 (addHl .bc s)

/-- `DEC BC` (R291). -/
def exec_dec_bc (s : State) : Result := done 0x0B (decPair .bc s)

/-- `INC DE` (R290). -/
def exec_inc_de (s : State) : Result := done 0x13 (incPair .de s)

/-- `ADD HL,DE` (R293). -/
def exec_add_hl_de (s : State) : Result := done 0x19 (addHl .de s)

/-- `DEC DE` (R291). -/
def exec_dec_de (s : State) : Result := done 0x1B (decPair .de s)

/-- `INC HL` (R290). -/
def exec_inc_hl (s : State) : Result := done 0x23 (incPair .hl s)

/-- `ADD HL,HL` (R293). -/
def exec_add_hl_hl (s : State) : Result := done 0x29 (addHl .hl s)

/-- `DEC HL` (R291). -/
def exec_dec_hl (s : State) : Result := done 0x2B (decPair .hl s)

/-- `INC SP` (R290). -/
def exec_inc_sp (s : State) : Result := done 0x33 (incPair .sp s)

/-- `ADD HL,SP` (R293). -/
def exec_add_hl_sp (s : State) : Result := done 0x39 (addHl .sp s)

/-- `DEC SP` (R291). -/
def exec_dec_sp (s : State) : Result := done 0x3B (decPair .sp s)

/-- `ADD SP,e8` (R294). -/
def exec_add_sp_e8 (e : Byte) (s : State) : Result := done 0xE8 (addSp e s)

end Sys2Proof.Machine
end

