-- ==== Sys2Proof/Machine/Alu8.lean ====
section
/-!
DEFINITION. 8-bit arithmetic and logic instructions (42_alu8.md R250 to R283). The first operand and the
destination are A; CP writes flags only.
-/

namespace Sys2Proof.Machine

/-- An ALU operation on A; CP keeps A (R250 to R273). -/
def alu (o : AluOp) (x : Source) (len : Nat) (s : State) : State :=
  let r := aluResult o s.a (s.source x) s.fc
  ({ s with a := if o = AluOp.cp then s.a else r.1 }.setFlags r.2).advance len

/-- `INC r` (R274). -/
def incReg (r : Reg8) (s : State) : State :=
  ((s.setReg r (inc8 (s.getReg r) s.fc).1).setFlags (inc8 (s.getReg r) s.fc).2).advance 1

/-- `DEC r` (R276). -/
def decReg (r : Reg8) (s : State) : State :=
  ((s.setReg r (dec8 (s.getReg r) s.fc).1).setFlags (dec8 (s.getReg r) s.fc).2).advance 1

/-- `INC (HL)` (R275). -/
def incMem (s : State) : State :=
  let r := inc8 (s.memRead s.hl) s.fc
  ((s.memWrite s.hl r.1).setFlags r.2).advance 1

/-- `DEC (HL)` (R277). -/
def decMem (s : State) : State :=
  let r := dec8 (s.memRead s.hl) s.fc
  ((s.memWrite s.hl r.1).setFlags r.2).advance 1

/-- `DAA` (R280). -/
def daa (s : State) : State := ({ s with a := (daa8 s.a s.flags).1 }.setFlags (daa8 s.a s.flags).2).advance 1

/-- `CPL` (R281). -/
def cpl (s : State) : State := ({ s with a := s.a ^^^ 0xFF#8 }.setFlags ⟨s.fz, true, true, s.fc⟩).advance 1

/-- `SCF` (R282). -/
def scf (s : State) : State := (s.setFlags ⟨s.fz, false, false, true⟩).advance 1

/-- `CCF` (R283). -/
def ccf (s : State) : State := (s.setFlags ⟨s.fz, false, false, !s.fc⟩).advance 1

/-! ## The meanings -/

/-- `INC B` (R274). -/
def exec_inc_b (s : State) : Result := done 0x04 (incReg .b s)

/-- `DEC B` (R276). -/
def exec_dec_b (s : State) : Result := done 0x05 (decReg .b s)

/-- `INC C` (R274). -/
def exec_inc_c (s : State) : Result := done 0x0C (incReg .c s)

/-- `DEC C` (R276). -/
def exec_dec_c (s : State) : Result := done 0x0D (decReg .c s)

/-- `INC D` (R274). -/
def exec_inc_d (s : State) : Result := done 0x14 (incReg .d s)

/-- `DEC D` (R276). -/
def exec_dec_d (s : State) : Result := done 0x15 (decReg .d s)

/-- `INC E` (R274). -/
def exec_inc_e (s : State) : Result := done 0x1C (incReg .e s)

/-- `DEC E` (R276). -/
def exec_dec_e (s : State) : Result := done 0x1D (decReg .e s)

/-- `INC H` (R274). -/
def exec_inc_h (s : State) : Result := done 0x24 (incReg .h s)

/-- `DEC H` (R276). -/
def exec_dec_h (s : State) : Result := done 0x25 (decReg .h s)

/-- `DAA` (R280). -/
def exec_daa (s : State) : Result := done 0x27 (daa s)

/-- `INC L` (R274). -/
def exec_inc_l (s : State) : Result := done 0x2C (incReg .l s)

/-- `DEC L` (R276). -/
def exec_dec_l (s : State) : Result := done 0x2D (decReg .l s)

/-- `CPL` (R281). -/
def exec_cpl (s : State) : Result := done 0x2F (cpl s)

/-- `INC (HL)` (R275). -/
def exec_inc_mhl (s : State) : Result := done 0x34 (incMem s)

/-- `DEC (HL)` (R277). -/
def exec_dec_mhl (s : State) : Result := done 0x35 (decMem s)

/-- `SCF` (R282). -/
def exec_scf (s : State) : Result := done 0x37 (scf s)

/-- `INC A` (R274). -/
def exec_inc_a (s : State) : Result := done 0x3C (incReg .a s)

/-- `DEC A` (R276). -/
def exec_dec_a (s : State) : Result := done 0x3D (decReg .a s)

/-- `CCF` (R283). -/
def exec_ccf (s : State) : Result := done 0x3F (ccf s)

/-- `ADD A,B` (R250). -/
def exec_add_a_b (s : State) : Result := done 0x80 (alu .add (.reg .b) 1 s)

/-- `ADD A,C` (R250). -/
def exec_add_a_c (s : State) : Result := done 0x81 (alu .add (.reg .c) 1 s)

/-- `ADD A,D` (R250). -/
def exec_add_a_d (s : State) : Result := done 0x82 (alu .add (.reg .d) 1 s)

/-- `ADD A,E` (R250). -/
def exec_add_a_e (s : State) : Result := done 0x83 (alu .add (.reg .e) 1 s)

/-- `ADD A,H` (R250). -/
def exec_add_a_h (s : State) : Result := done 0x84 (alu .add (.reg .h) 1 s)

/-- `ADD A,L` (R250). -/
def exec_add_a_l (s : State) : Result := done 0x85 (alu .add (.reg .l) 1 s)

/-- `ADD A,(HL)` (R251). -/
def exec_add_a_mhl (s : State) : Result := done 0x86 (alu .add .mem 1 s)

/-- `ADD A,A` (R250). -/
def exec_add_a_a (s : State) : Result := done 0x87 (alu .add (.reg .a) 1 s)

/-- `ADC A,B` (R253). -/
def exec_adc_a_b (s : State) : Result := done 0x88 (alu .adc (.reg .b) 1 s)

/-- `ADC A,C` (R253). -/
def exec_adc_a_c (s : State) : Result := done 0x89 (alu .adc (.reg .c) 1 s)

/-- `ADC A,D` (R253). -/
def exec_adc_a_d (s : State) : Result := done 0x8A (alu .adc (.reg .d) 1 s)

/-- `ADC A,E` (R253). -/
def exec_adc_a_e (s : State) : Result := done 0x8B (alu .adc (.reg .e) 1 s)

/-- `ADC A,H` (R253). -/
def exec_adc_a_h (s : State) : Result := done 0x8C (alu .adc (.reg .h) 1 s)

/-- `ADC A,L` (R253). -/
def exec_adc_a_l (s : State) : Result := done 0x8D (alu .adc (.reg .l) 1 s)

/-- `ADC A,(HL)` (R254). -/
def exec_adc_a_mhl (s : State) : Result := done 0x8E (alu .adc .mem 1 s)

/-- `ADC A,A` (R253). -/
def exec_adc_a_a (s : State) : Result := done 0x8F (alu .adc (.reg .a) 1 s)

/-- `SUB B` (R256). -/
def exec_sub_b (s : State) : Result := done 0x90 (alu .sub (.reg .b) 1 s)

/-- `SUB C` (R256). -/
def exec_sub_c (s : State) : Result := done 0x91 (alu .sub (.reg .c) 1 s)

/-- `SUB D` (R256). -/
def exec_sub_d (s : State) : Result := done 0x92 (alu .sub (.reg .d) 1 s)

/-- `SUB E` (R256). -/
def exec_sub_e (s : State) : Result := done 0x93 (alu .sub (.reg .e) 1 s)

/-- `SUB H` (R256). -/
def exec_sub_h (s : State) : Result := done 0x94 (alu .sub (.reg .h) 1 s)

/-- `SUB L` (R256). -/
def exec_sub_l (s : State) : Result := done 0x95 (alu .sub (.reg .l) 1 s)

/-- `SUB (HL)` (R257). -/
def exec_sub_mhl (s : State) : Result := done 0x96 (alu .sub .mem 1 s)

/-- `SUB A` (R256). -/
def exec_sub_a (s : State) : Result := done 0x97 (alu .sub (.reg .a) 1 s)

/-- `SBC A,B` (R259). -/
def exec_sbc_a_b (s : State) : Result := done 0x98 (alu .sbc (.reg .b) 1 s)

/-- `SBC A,C` (R259). -/
def exec_sbc_a_c (s : State) : Result := done 0x99 (alu .sbc (.reg .c) 1 s)

/-- `SBC A,D` (R259). -/
def exec_sbc_a_d (s : State) : Result := done 0x9A (alu .sbc (.reg .d) 1 s)

/-- `SBC A,E` (R259). -/
def exec_sbc_a_e (s : State) : Result := done 0x9B (alu .sbc (.reg .e) 1 s)

/-- `SBC A,H` (R259). -/
def exec_sbc_a_h (s : State) : Result := done 0x9C (alu .sbc (.reg .h) 1 s)

/-- `SBC A,L` (R259). -/
def exec_sbc_a_l (s : State) : Result := done 0x9D (alu .sbc (.reg .l) 1 s)

/-- `SBC A,(HL)` (R260). -/
def exec_sbc_a_mhl (s : State) : Result := done 0x9E (alu .sbc .mem 1 s)

/-- `SBC A,A` (R259). -/
def exec_sbc_a_a (s : State) : Result := done 0x9F (alu .sbc (.reg .a) 1 s)

/-- `AND B` (R262). -/
def exec_and_b (s : State) : Result := done 0xA0 (alu .and (.reg .b) 1 s)

/-- `AND C` (R262). -/
def exec_and_c (s : State) : Result := done 0xA1 (alu .and (.reg .c) 1 s)

/-- `AND D` (R262). -/
def exec_and_d (s : State) : Result := done 0xA2 (alu .and (.reg .d) 1 s)

/-- `AND E` (R262). -/
def exec_and_e (s : State) : Result := done 0xA3 (alu .and (.reg .e) 1 s)

/-- `AND H` (R262). -/
def exec_and_h (s : State) : Result := done 0xA4 (alu .and (.reg .h) 1 s)

/-- `AND L` (R262). -/
def exec_and_l (s : State) : Result := done 0xA5 (alu .and (.reg .l) 1 s)

/-- `AND (HL)` (R263). -/
def exec_and_mhl (s : State) : Result := done 0xA6 (alu .and .mem 1 s)

/-- `AND A` (R262). -/
def exec_and_a (s : State) : Result := done 0xA7 (alu .and (.reg .a) 1 s)

/-- `XOR B` (R265). -/
def exec_xor_b (s : State) : Result := done 0xA8 (alu .xor (.reg .b) 1 s)

/-- `XOR C` (R265). -/
def exec_xor_c (s : State) : Result := done 0xA9 (alu .xor (.reg .c) 1 s)

/-- `XOR D` (R265). -/
def exec_xor_d (s : State) : Result := done 0xAA (alu .xor (.reg .d) 1 s)

/-- `XOR E` (R265). -/
def exec_xor_e (s : State) : Result := done 0xAB (alu .xor (.reg .e) 1 s)

/-- `XOR H` (R265). -/
def exec_xor_h (s : State) : Result := done 0xAC (alu .xor (.reg .h) 1 s)

/-- `XOR L` (R265). -/
def exec_xor_l (s : State) : Result := done 0xAD (alu .xor (.reg .l) 1 s)

/-- `XOR (HL)` (R266). -/
def exec_xor_mhl (s : State) : Result := done 0xAE (alu .xor .mem 1 s)

/-- `XOR A` (R265). -/
def exec_xor_a (s : State) : Result := done 0xAF (alu .xor (.reg .a) 1 s)

/-- `OR B` (R268). -/
def exec_or_b (s : State) : Result := done 0xB0 (alu .or (.reg .b) 1 s)

/-- `OR C` (R268). -/
def exec_or_c (s : State) : Result := done 0xB1 (alu .or (.reg .c) 1 s)

/-- `OR D` (R268). -/
def exec_or_d (s : State) : Result := done 0xB2 (alu .or (.reg .d) 1 s)

/-- `OR E` (R268). -/
def exec_or_e (s : State) : Result := done 0xB3 (alu .or (.reg .e) 1 s)

/-- `OR H` (R268). -/
def exec_or_h (s : State) : Result := done 0xB4 (alu .or (.reg .h) 1 s)

/-- `OR L` (R268). -/
def exec_or_l (s : State) : Result := done 0xB5 (alu .or (.reg .l) 1 s)

/-- `OR (HL)` (R269). -/
def exec_or_mhl (s : State) : Result := done 0xB6 (alu .or .mem 1 s)

/-- `OR A` (R268). -/
def exec_or_a (s : State) : Result := done 0xB7 (alu .or (.reg .a) 1 s)

/-- `CP B` (R271). -/
def exec_cp_b (s : State) : Result := done 0xB8 (alu .cp (.reg .b) 1 s)

/-- `CP C` (R271). -/
def exec_cp_c (s : State) : Result := done 0xB9 (alu .cp (.reg .c) 1 s)

/-- `CP D` (R271). -/
def exec_cp_d (s : State) : Result := done 0xBA (alu .cp (.reg .d) 1 s)

/-- `CP E` (R271). -/
def exec_cp_e (s : State) : Result := done 0xBB (alu .cp (.reg .e) 1 s)

/-- `CP H` (R271). -/
def exec_cp_h (s : State) : Result := done 0xBC (alu .cp (.reg .h) 1 s)

/-- `CP L` (R271). -/
def exec_cp_l (s : State) : Result := done 0xBD (alu .cp (.reg .l) 1 s)

/-- `CP (HL)` (R272). -/
def exec_cp_mhl (s : State) : Result := done 0xBE (alu .cp .mem 1 s)

/-- `CP A` (R271). -/
def exec_cp_a (s : State) : Result := done 0xBF (alu .cp (.reg .a) 1 s)

/-- `ADD A,d8` (R252). -/
def exec_add_a_d8 (n : Byte) (s : State) : Result := done 0xC6 (alu .add (.imm n) 2 s)

/-- `ADC A,d8` (R255). -/
def exec_adc_a_d8 (n : Byte) (s : State) : Result := done 0xCE (alu .adc (.imm n) 2 s)

/-- `SUB d8` (R258). -/
def exec_sub_d8 (n : Byte) (s : State) : Result := done 0xD6 (alu .sub (.imm n) 2 s)

/-- `SBC A,d8` (R261). -/
def exec_sbc_a_d8 (n : Byte) (s : State) : Result := done 0xDE (alu .sbc (.imm n) 2 s)

/-- `AND d8` (R264). -/
def exec_and_d8 (n : Byte) (s : State) : Result := done 0xE6 (alu .and (.imm n) 2 s)

/-- `XOR d8` (R267). -/
def exec_xor_d8 (n : Byte) (s : State) : Result := done 0xEE (alu .xor (.imm n) 2 s)

/-- `OR d8` (R270). -/
def exec_or_d8 (n : Byte) (s : State) : Result := done 0xF6 (alu .or (.imm n) 2 s)

/-- `CP d8` (R273). -/
def exec_cp_d8 (n : Byte) (s : State) : Result := done 0xFE (alu .cp (.imm n) 2 s)

end Sys2Proof.Machine
end

