-- ==== Sys2Proof/Machine/Control.lean ====
section
/-!
DEFINITION. Control-transfer instructions (45_control.md R330 to R343). No flag is written.
-/

namespace Sys2Proof.Machine

/-- `JP a16` (R330). -/
def jp (w : Word) (s : State) : State := s.setPc w

/-- `JP HL` (R332). -/
def jpHl (s : State) : State := s.setPc s.hl

/-- `JR e8` (R333). -/
def jr (e : Byte) (s : State) : State := s.setPc (s.relative e)

/-- `CALL a16` (R335). -/
def call (w : Word) (s : State) : State := (s.push16 (s.following 3)).setPc w

/-- `RST n` (R342). -/
def rst (k : BitIndex) (s : State) : State := (s.push16 (s.following 1)).setPc (rstTarget k)

/-- `JP cc,a16` (R331). -/
def jpCond (op : Nat) (cc : Cond) (w : Word) (s : State) : Result :=
  branch op (s.cond cc) (jp w s) (s.advance 3)

/-- `JR cc,e8` (R334). -/
def jrCond (op : Nat) (cc : Cond) (e : Byte) (s : State) : Result :=
  branch op (s.cond cc) (jr e s) (s.advance 2)

/-- `CALL cc,a16` (R336). -/
def callCond (op : Nat) (cc : Cond) (w : Word) (s : State) : Result :=
  branch op (s.cond cc) (call w s) (s.advance 3)

/-- `RET cc` (R338). -/
def retCond (op : Nat) (cc : Cond) (s : State) : Result :=
  branch op (s.cond cc) s.returnFrom (s.advance 1)

/-! ## The meanings -/

/-- `JR e8` (R333). -/
def exec_jr_e8 (e : Byte) (s : State) : Result := done 0x18 (jr e s)

/-- `JR NZ,e8` (R334). -/
def exec_jr_nz_e8 (e : Byte) (s : State) : Result := jrCond 0x20 .nz e s

/-- `JR Z,e8` (R334). -/
def exec_jr_z_e8 (e : Byte) (s : State) : Result := jrCond 0x28 .z e s

/-- `JR NC,e8` (R334). -/
def exec_jr_nc_e8 (e : Byte) (s : State) : Result := jrCond 0x30 .nc e s

/-- `JR C,e8` (R334). -/
def exec_jr_c_e8 (e : Byte) (s : State) : Result := jrCond 0x38 .c e s

/-- `RET NZ` (R338). -/
def exec_ret_nz (s : State) : Result := retCond 0xC0 .nz s

/-- `JP NZ,a16` (R331). -/
def exec_jp_nz_a16 (w : Word) (s : State) : Result := jpCond 0xC2 .nz w s

/-- `JP a16` (R330). -/
def exec_jp_a16 (w : Word) (s : State) : Result := done 0xC3 (jp w s)

/-- `CALL NZ,a16` (R336). -/
def exec_call_nz_a16 (w : Word) (s : State) : Result := callCond 0xC4 .nz w s

/-- `RST 00H` (R342). -/
def exec_rst_00h (s : State) : Result := done 0xC7 (rst 0 s)

/-- `RET Z` (R338). -/
def exec_ret_z (s : State) : Result := retCond 0xC8 .z s

/-- `RET` (R337). -/
def exec_ret (s : State) : Result := done 0xC9 s.returnFrom

/-- `JP Z,a16` (R331). -/
def exec_jp_z_a16 (w : Word) (s : State) : Result := jpCond 0xCA .z w s

/-- `CALL Z,a16` (R336). -/
def exec_call_z_a16 (w : Word) (s : State) : Result := callCond 0xCC .z w s

/-- `CALL a16` (R335). -/
def exec_call_a16 (w : Word) (s : State) : Result := done 0xCD (call w s)

/-- `RST 08H` (R342). -/
def exec_rst_08h (s : State) : Result := done 0xCF (rst 1 s)

/-- `RET NC` (R338). -/
def exec_ret_nc (s : State) : Result := retCond 0xD0 .nc s

/-- `JP NC,a16` (R331). -/
def exec_jp_nc_a16 (w : Word) (s : State) : Result := jpCond 0xD2 .nc w s

/-- `CALL NC,a16` (R336). -/
def exec_call_nc_a16 (w : Word) (s : State) : Result := callCond 0xD4 .nc w s

/-- `RST 10H` (R342). -/
def exec_rst_10h (s : State) : Result := done 0xD7 (rst 2 s)

/-- `RET C` (R338). -/
def exec_ret_c (s : State) : Result := retCond 0xD8 .c s

/-- `RETI` (R341). -/
def exec_reti (s : State) : Result := done 0xD9 s.returnFromInterrupt

/-- `JP C,a16` (R331). -/
def exec_jp_c_a16 (w : Word) (s : State) : Result := jpCond 0xDA .c w s

/-- `CALL C,a16` (R336). -/
def exec_call_c_a16 (w : Word) (s : State) : Result := callCond 0xDC .c w s

/-- `RST 18H` (R342). -/
def exec_rst_18h (s : State) : Result := done 0xDF (rst 3 s)

/-- `RST 20H` (R342). -/
def exec_rst_20h (s : State) : Result := done 0xE7 (rst 4 s)

/-- `JP HL` (R332). -/
def exec_jp_hl (s : State) : Result := done 0xE9 (jpHl s)

/-- `RST 28H` (R342). -/
def exec_rst_28h (s : State) : Result := done 0xEF (rst 5 s)

/-- `RST 30H` (R342). -/
def exec_rst_30h (s : State) : Result := done 0xF7 (rst 6 s)

/-- `RST 38H` (R342). -/
def exec_rst_38h (s : State) : Result := done 0xFF (rst 7 s)

end Sys2Proof.Machine
end

