-- ==== Sys2Proof/Machine/Load16.lean ====
section
/-!
DEFINITION. 16-bit loads and stack instructions (41_load16_stack.md R232 to R237). No flag is written but by
LD HL,SP+e8 and POP AF.
-/

namespace Sys2Proof.Machine

/-- `LD rr,d16` (R232). -/
def ldPairImm (p : Pair) (w : Word) (s : State) : State := (s.setPair p w).advance 3

/-- `LD (a16),SP` (R233). -/
def ldAbsSp (w : Word) (s : State) : State := (s.memWrite16 w s.sp).advance 3

/-- `LD SP,HL` (R234). -/
def ldSpHl (s : State) : State := { s with sp := s.hl }.advance 1

/-- `LD HL,SP+e8` (R235). -/
def ldHlSp (e : Byte) (s : State) : State :=
  ((s.setHl (addSp16 s.sp e).1).setFlags (addSp16 s.sp e).2).advance 2

/-- `PUSH rr` (R236). -/
def pushPair (p : StackPair) (s : State) : State := (s.push16 (s.getStackPair p)).advance 1

/-- `POP rr` (R237). -/
def popPair (p : StackPair) (s : State) : State := (s.dropWord.setStackPair p s.popValue).advance 1

/-! ## The meanings -/

/-- `LD BC,d16` (R232). -/
def exec_ld_bc_d16 (w : Word) (s : State) : Result := done 0x01 (ldPairImm .bc w s)

/-- `LD (a16),SP` (R233). -/
def exec_ld_ma16_sp (w : Word) (s : State) : Result := done 0x08 (ldAbsSp w s)

/-- `LD DE,d16` (R232). -/
def exec_ld_de_d16 (w : Word) (s : State) : Result := done 0x11 (ldPairImm .de w s)

/-- `LD HL,d16` (R232). -/
def exec_ld_hl_d16 (w : Word) (s : State) : Result := done 0x21 (ldPairImm .hl w s)

/-- `LD SP,d16` (R232). -/
def exec_ld_sp_d16 (w : Word) (s : State) : Result := done 0x31 (ldPairImm .sp w s)

/-- `POP BC` (R237). -/
def exec_pop_bc (s : State) : Result := done 0xC1 (popPair .bc s)

/-- `PUSH BC` (R236). -/
def exec_push_bc (s : State) : Result := done 0xC5 (pushPair .bc s)

/-- `POP DE` (R237). -/
def exec_pop_de (s : State) : Result := done 0xD1 (popPair .de s)

/-- `PUSH DE` (R236). -/
def exec_push_de (s : State) : Result := done 0xD5 (pushPair .de s)

/-- `POP HL` (R237). -/
def exec_pop_hl (s : State) : Result := done 0xE1 (popPair .hl s)

/-- `PUSH HL` (R236). -/
def exec_push_hl (s : State) : Result := done 0xE5 (pushPair .hl s)

/-- `POP AF` (R237). -/
def exec_pop_af (s : State) : Result := done 0xF1 (popPair .af s)

/-- `PUSH AF` (R236). -/
def exec_push_af (s : State) : Result := done 0xF5 (pushPair .af s)

/-- `LD HL,SP+e8` (R235). -/
def exec_ld_hl_sp_e8 (e : Byte) (s : State) : Result := done 0xF8 (ldHlSp e s)

/-- `LD SP,HL` (R234). -/
def exec_ld_sp_hl (s : State) : Result := done 0xF9 (ldSpHl s)

end Sys2Proof.Machine
end

