-- ==== Sys2Proof/Machine/Load8.lean ====
section
/-!
DEFINITION. 8-bit load instructions (40_load8.md R200 to R218). No flag is written. Each meaning is one line
over the shared operation of its rule; the number is its opcode.
-/

namespace Sys2Proof.Machine

/-- `LD r,r'` (R200). -/
def ldRegReg (dst src : Reg8) (s : State) : State := (s.setReg dst (s.getReg src)).advance 1

/-- `LD r,d8` (R201). -/
def ldRegImm (dst : Reg8) (n : Byte) (s : State) : State := (s.setReg dst n).advance 2

/-- `LD r,(HL)` (R202). -/
def ldRegMem (dst : Reg8) (s : State) : State := (s.setReg dst (s.memRead s.hl)).advance 1

/-- `LD (HL),r` (R203). -/
def ldMemReg (src : Reg8) (s : State) : State := (s.memWrite s.hl (s.getReg src)).advance 1

/-- `LD (HL),d8` (R204). -/
def ldMemImm (n : Byte) (s : State) : State := (s.memWrite s.hl n).advance 2

/-- The loads of A from memory: A read at the place, then HL stepped if the place steps it; `len` is the
instruction's length (R205, R206, R209, R211, R213, R216, R218). -/
def ldA (p : Place) (len : Nat) (s : State) : State :=
  ({ s with a := s.memRead (s.placeAddr p) }.placeStep p).advance len

/-- The stores of A to memory: A written at the place, then HL stepped if the place steps it (R207, R208, R210,
R212, R214, R215, R217). -/
def stA (p : Place) (len : Nat) (s : State) : State :=
  ((s.memWrite (s.placeAddr p) s.a).placeStep p).advance len

/-! ## The meanings -/

/-- `LD (BC),A` (R207). -/
def exec_ld_mbc_a (s : State) : Result := done 0x02 (stA .bc 1 s)

/-- `LD B,d8` (R201). -/
def exec_ld_b_d8 (n : Byte) (s : State) : Result := done 0x06 (ldRegImm .b n s)

/-- `LD A,(BC)` (R205). -/
def exec_ld_a_mbc (s : State) : Result := done 0x0A (ldA .bc 1 s)

/-- `LD C,d8` (R201). -/
def exec_ld_c_d8 (n : Byte) (s : State) : Result := done 0x0E (ldRegImm .c n s)

/-- `LD (DE),A` (R208). -/
def exec_ld_mde_a (s : State) : Result := done 0x12 (stA .de 1 s)

/-- `LD D,d8` (R201). -/
def exec_ld_d_d8 (n : Byte) (s : State) : Result := done 0x16 (ldRegImm .d n s)

/-- `LD A,(DE)` (R206). -/
def exec_ld_a_mde (s : State) : Result := done 0x1A (ldA .de 1 s)

/-- `LD E,d8` (R201). -/
def exec_ld_e_d8 (n : Byte) (s : State) : Result := done 0x1E (ldRegImm .e n s)

/-- `LD (HL+),A` (R215). -/
def exec_ld_mhli_a (s : State) : Result := done 0x22 (stA .hlInc 1 s)

/-- `LD H,d8` (R201). -/
def exec_ld_h_d8 (n : Byte) (s : State) : Result := done 0x26 (ldRegImm .h n s)

/-- `LD A,(HL+)` (R216). -/
def exec_ld_a_mhli (s : State) : Result := done 0x2A (ldA .hlInc 1 s)

/-- `LD L,d8` (R201). -/
def exec_ld_l_d8 (n : Byte) (s : State) : Result := done 0x2E (ldRegImm .l n s)

/-- `LD (HL-),A` (R217). -/
def exec_ld_mhld_a (s : State) : Result := done 0x32 (stA .hlDec 1 s)

/-- `LD (HL),d8` (R204). -/
def exec_ld_mhl_d8 (n : Byte) (s : State) : Result := done 0x36 (ldMemImm n s)

/-- `LD A,(HL-)` (R218). -/
def exec_ld_a_mhld (s : State) : Result := done 0x3A (ldA .hlDec 1 s)

/-- `LD A,d8` (R201). -/
def exec_ld_a_d8 (n : Byte) (s : State) : Result := done 0x3E (ldRegImm .a n s)

/-- `LD B,B` (R200). -/
def exec_ld_b_b (s : State) : Result := done 0x40 (ldRegReg .b .b s)

/-- `LD B,C` (R200). -/
def exec_ld_b_c (s : State) : Result := done 0x41 (ldRegReg .b .c s)

/-- `LD B,D` (R200). -/
def exec_ld_b_d (s : State) : Result := done 0x42 (ldRegReg .b .d s)

/-- `LD B,E` (R200). -/
def exec_ld_b_e (s : State) : Result := done 0x43 (ldRegReg .b .e s)

/-- `LD B,H` (R200). -/
def exec_ld_b_h (s : State) : Result := done 0x44 (ldRegReg .b .h s)

/-- `LD B,L` (R200). -/
def exec_ld_b_l (s : State) : Result := done 0x45 (ldRegReg .b .l s)

/-- `LD B,(HL)` (R202). -/
def exec_ld_b_mhl (s : State) : Result := done 0x46 (ldRegMem .b s)

/-- `LD B,A` (R200). -/
def exec_ld_b_a (s : State) : Result := done 0x47 (ldRegReg .b .a s)

/-- `LD C,B` (R200). -/
def exec_ld_c_b (s : State) : Result := done 0x48 (ldRegReg .c .b s)

/-- `LD C,C` (R200). -/
def exec_ld_c_c (s : State) : Result := done 0x49 (ldRegReg .c .c s)

/-- `LD C,D` (R200). -/
def exec_ld_c_d (s : State) : Result := done 0x4A (ldRegReg .c .d s)

/-- `LD C,E` (R200). -/
def exec_ld_c_e (s : State) : Result := done 0x4B (ldRegReg .c .e s)

/-- `LD C,H` (R200). -/
def exec_ld_c_h (s : State) : Result := done 0x4C (ldRegReg .c .h s)

/-- `LD C,L` (R200). -/
def exec_ld_c_l (s : State) : Result := done 0x4D (ldRegReg .c .l s)

/-- `LD C,(HL)` (R202). -/
def exec_ld_c_mhl (s : State) : Result := done 0x4E (ldRegMem .c s)

/-- `LD C,A` (R200). -/
def exec_ld_c_a (s : State) : Result := done 0x4F (ldRegReg .c .a s)

/-- `LD D,B` (R200). -/
def exec_ld_d_b (s : State) : Result := done 0x50 (ldRegReg .d .b s)

/-- `LD D,C` (R200). -/
def exec_ld_d_c (s : State) : Result := done 0x51 (ldRegReg .d .c s)

/-- `LD D,D` (R200). -/
def exec_ld_d_d (s : State) : Result := done 0x52 (ldRegReg .d .d s)

/-- `LD D,E` (R200). -/
def exec_ld_d_e (s : State) : Result := done 0x53 (ldRegReg .d .e s)

/-- `LD D,H` (R200). -/
def exec_ld_d_h (s : State) : Result := done 0x54 (ldRegReg .d .h s)

/-- `LD D,L` (R200). -/
def exec_ld_d_l (s : State) : Result := done 0x55 (ldRegReg .d .l s)

/-- `LD D,(HL)` (R202). -/
def exec_ld_d_mhl (s : State) : Result := done 0x56 (ldRegMem .d s)

/-- `LD D,A` (R200). -/
def exec_ld_d_a (s : State) : Result := done 0x57 (ldRegReg .d .a s)

/-- `LD E,B` (R200). -/
def exec_ld_e_b (s : State) : Result := done 0x58 (ldRegReg .e .b s)

/-- `LD E,C` (R200). -/
def exec_ld_e_c (s : State) : Result := done 0x59 (ldRegReg .e .c s)

/-- `LD E,D` (R200). -/
def exec_ld_e_d (s : State) : Result := done 0x5A (ldRegReg .e .d s)

/-- `LD E,E` (R200). -/
def exec_ld_e_e (s : State) : Result := done 0x5B (ldRegReg .e .e s)

/-- `LD E,H` (R200). -/
def exec_ld_e_h (s : State) : Result := done 0x5C (ldRegReg .e .h s)

/-- `LD E,L` (R200). -/
def exec_ld_e_l (s : State) : Result := done 0x5D (ldRegReg .e .l s)

/-- `LD E,(HL)` (R202). -/
def exec_ld_e_mhl (s : State) : Result := done 0x5E (ldRegMem .e s)

/-- `LD E,A` (R200). -/
def exec_ld_e_a (s : State) : Result := done 0x5F (ldRegReg .e .a s)

/-- `LD H,B` (R200). -/
def exec_ld_h_b (s : State) : Result := done 0x60 (ldRegReg .h .b s)

/-- `LD H,C` (R200). -/
def exec_ld_h_c (s : State) : Result := done 0x61 (ldRegReg .h .c s)

/-- `LD H,D` (R200). -/
def exec_ld_h_d (s : State) : Result := done 0x62 (ldRegReg .h .d s)

/-- `LD H,E` (R200). -/
def exec_ld_h_e (s : State) : Result := done 0x63 (ldRegReg .h .e s)

/-- `LD H,H` (R200). -/
def exec_ld_h_h (s : State) : Result := done 0x64 (ldRegReg .h .h s)

/-- `LD H,L` (R200). -/
def exec_ld_h_l (s : State) : Result := done 0x65 (ldRegReg .h .l s)

/-- `LD H,(HL)` (R202). -/
def exec_ld_h_mhl (s : State) : Result := done 0x66 (ldRegMem .h s)

/-- `LD H,A` (R200). -/
def exec_ld_h_a (s : State) : Result := done 0x67 (ldRegReg .h .a s)

/-- `LD L,B` (R200). -/
def exec_ld_l_b (s : State) : Result := done 0x68 (ldRegReg .l .b s)

/-- `LD L,C` (R200). -/
def exec_ld_l_c (s : State) : Result := done 0x69 (ldRegReg .l .c s)

/-- `LD L,D` (R200). -/
def exec_ld_l_d (s : State) : Result := done 0x6A (ldRegReg .l .d s)

/-- `LD L,E` (R200). -/
def exec_ld_l_e (s : State) : Result := done 0x6B (ldRegReg .l .e s)

/-- `LD L,H` (R200). -/
def exec_ld_l_h (s : State) : Result := done 0x6C (ldRegReg .l .h s)

/-- `LD L,L` (R200). -/
def exec_ld_l_l (s : State) : Result := done 0x6D (ldRegReg .l .l s)

/-- `LD L,(HL)` (R202). -/
def exec_ld_l_mhl (s : State) : Result := done 0x6E (ldRegMem .l s)

/-- `LD L,A` (R200). -/
def exec_ld_l_a (s : State) : Result := done 0x6F (ldRegReg .l .a s)

/-- `LD (HL),B` (R203). -/
def exec_ld_mhl_b (s : State) : Result := done 0x70 (ldMemReg .b s)

/-- `LD (HL),C` (R203). -/
def exec_ld_mhl_c (s : State) : Result := done 0x71 (ldMemReg .c s)

/-- `LD (HL),D` (R203). -/
def exec_ld_mhl_d (s : State) : Result := done 0x72 (ldMemReg .d s)

/-- `LD (HL),E` (R203). -/
def exec_ld_mhl_e (s : State) : Result := done 0x73 (ldMemReg .e s)

/-- `LD (HL),H` (R203). -/
def exec_ld_mhl_h (s : State) : Result := done 0x74 (ldMemReg .h s)

/-- `LD (HL),L` (R203). -/
def exec_ld_mhl_l (s : State) : Result := done 0x75 (ldMemReg .l s)

/-- `LD (HL),A` (R203). -/
def exec_ld_mhl_a (s : State) : Result := done 0x77 (ldMemReg .a s)

/-- `LD A,B` (R200). -/
def exec_ld_a_b (s : State) : Result := done 0x78 (ldRegReg .a .b s)

/-- `LD A,C` (R200). -/
def exec_ld_a_c (s : State) : Result := done 0x79 (ldRegReg .a .c s)

/-- `LD A,D` (R200). -/
def exec_ld_a_d (s : State) : Result := done 0x7A (ldRegReg .a .d s)

/-- `LD A,E` (R200). -/
def exec_ld_a_e (s : State) : Result := done 0x7B (ldRegReg .a .e s)

/-- `LD A,H` (R200). -/
def exec_ld_a_h (s : State) : Result := done 0x7C (ldRegReg .a .h s)

/-- `LD A,L` (R200). -/
def exec_ld_a_l (s : State) : Result := done 0x7D (ldRegReg .a .l s)

/-- `LD A,(HL)` (R202). -/
def exec_ld_a_mhl (s : State) : Result := done 0x7E (ldRegMem .a s)

/-- `LD A,A` (R200). -/
def exec_ld_a_a (s : State) : Result := done 0x7F (ldRegReg .a .a s)

/-- `LDH (a8),A` (R212). -/
def exec_ldh_ma8_a (n : Byte) (s : State) : Result := done 0xE0 (stA (.high n) 2 s)

/-- `LD (C),A` (R214). -/
def exec_ld_mc_a (s : State) : Result := done 0xE2 (stA .highC 1 s)

/-- `LD (a16),A` (R210). -/
def exec_ld_ma16_a (w : Word) (s : State) : Result := done 0xEA (stA (.abs w) 3 s)

/-- `LDH A,(a8)` (R211). -/
def exec_ldh_a_ma8 (n : Byte) (s : State) : Result := done 0xF0 (ldA (.high n) 2 s)

/-- `LD A,(C)` (R213). -/
def exec_ld_a_mc (s : State) : Result := done 0xF2 (ldA .highC 1 s)

/-- `LD A,(a16)` (R209). -/
def exec_ld_a_ma16 (w : Word) (s : State) : Result := done 0xFA (ldA (.abs w) 3 s)

end Sys2Proof.Machine
end

