-- ==== Sys2Proof/Machine/RotateShiftBit.lean ====
section
/-!
DEFINITION. Rotate, shift and bit instructions (44_rotate_shift_bit.md R300 to R325), and the dispatch of the
second page on the byte behind the prefix (46_system.md R365).
-/

namespace Sys2Proof.Machine

/-- RLCA, RRCA, RLA, RRA (R300 to R303). -/
def accRotate (o : AccRot) (s : State) : State :=
  ({ s with a := (accRotateFlags o s.a s.fc).1 }.setFlags (accRotateFlags o s.a s.fc).2).advance 1

/-- A prefixed rotate or shift: one read, then one write of the operand (R310 to R317). -/
def rotTarget (o : RotOp) (t : Target) (s : State) : State :=
  let r := rotateFlags o (s.target t) s.fc
  ((s.setTarget t r.1).setFlags r.2).advance 2

/-- `BIT b,r` and `BIT b,(HL)`: no write (R320, R321). -/
def bitTarget (k : BitIndex) (t : Target) (s : State) : State :=
  (s.setFlags (bitFlags k (s.target t) s.fc)).advance 2

/-- `RES b,r` and `RES b,(HL)` (R322, R323). -/
def resTarget (k : BitIndex) (t : Target) (s : State) : State :=
  (s.setTarget t (clearBit k (s.target t))).advance 2

/-- `SET b,r` and `SET b,(HL)` (R324, R325). -/
def setTargetBit (k : BitIndex) (t : Target) (s : State) : State :=
  (s.setTarget t (setBit k (s.target t))).advance 2

/-- The operand a `z` field selects (R156). -/
def targetOf (z : Fin 8) : Target :=
  #v[.reg .b, .reg .c, .reg .d, .reg .e, .reg .h, .reg .l, .mem, .reg .a][z]

/-- The operation a `y` field selects on the prefixed page (R161). -/
def rotOpOf (y : Fin 8) : RotOp := #v[.rlc, .rrc, .rl, .rr, .sla, .sra, .swap, .srl][y]

/-- The field `y = op[5:3]` (R153). -/
def fieldY (b : Byte) : Fin 8 := (b.extractLsb' 3 3).toFin

/-- The field `z = op[2:0]` (R153). -/
def fieldZ (b : Byte) : Fin 8 := (b.extractLsb' 0 3).toFin

/-- The handler of combined opcode `0xCB00 | op2`, by the field `x` (R164, R365). -/
def secondPageRun (op2 : Byte) (s : State) : State :=
  let y := fieldY op2
  let t := targetOf (fieldZ op2)
  match op2.getLsbD 7, op2.getLsbD 6 with
  | false, false => rotTarget (rotOpOf y) t s
  | false, true => bitTarget y t s
  | true, false => resTarget y t s
  | true, true => setTargetBit y t s

/-- The prefix as a first-page entry: the second byte is fetched from `u16(pc + 1)` and its handler runs
(R365; log 9). -/
def runPrefixed (s : State) : Result :=
  let op2 := s.memRead (s.pc + 1)
  done (0xCB00 + op2.toNat) (secondPageRun op2 s)

/-! ## The meanings -/

/-- `RLCA` (R300). -/
def exec_rlca (s : State) : Result := done 0x07 (accRotate .rlca s)

/-- `RRCA` (R301). -/
def exec_rrca (s : State) : Result := done 0x0F (accRotate .rrca s)

/-- `RLA` (R302). -/
def exec_rla (s : State) : Result := done 0x17 (accRotate .rla s)

/-- `RRA` (R303). -/
def exec_rra (s : State) : Result := done 0x1F (accRotate .rra s)

/-- `RLC B` (R310). -/
def exec_rlc_b (s : State) : Result := done 0xCB00 (rotTarget .rlc (.reg .b) s)

/-- `RLC C` (R310). -/
def exec_rlc_c (s : State) : Result := done 0xCB01 (rotTarget .rlc (.reg .c) s)

/-- `RLC D` (R310). -/
def exec_rlc_d (s : State) : Result := done 0xCB02 (rotTarget .rlc (.reg .d) s)

/-- `RLC E` (R310). -/
def exec_rlc_e (s : State) : Result := done 0xCB03 (rotTarget .rlc (.reg .e) s)

/-- `RLC H` (R310). -/
def exec_rlc_h (s : State) : Result := done 0xCB04 (rotTarget .rlc (.reg .h) s)

/-- `RLC L` (R310). -/
def exec_rlc_l (s : State) : Result := done 0xCB05 (rotTarget .rlc (.reg .l) s)

/-- `RLC (HL)` (R310). -/
def exec_rlc_mhl (s : State) : Result := done 0xCB06 (rotTarget .rlc .mem s)

/-- `RLC A` (R310). -/
def exec_rlc_a (s : State) : Result := done 0xCB07 (rotTarget .rlc (.reg .a) s)

/-- `RRC B` (R311). -/
def exec_rrc_b (s : State) : Result := done 0xCB08 (rotTarget .rrc (.reg .b) s)

/-- `RRC C` (R311). -/
def exec_rrc_c (s : State) : Result := done 0xCB09 (rotTarget .rrc (.reg .c) s)

/-- `RRC D` (R311). -/
def exec_rrc_d (s : State) : Result := done 0xCB0A (rotTarget .rrc (.reg .d) s)

/-- `RRC E` (R311). -/
def exec_rrc_e (s : State) : Result := done 0xCB0B (rotTarget .rrc (.reg .e) s)

/-- `RRC H` (R311). -/
def exec_rrc_h (s : State) : Result := done 0xCB0C (rotTarget .rrc (.reg .h) s)

/-- `RRC L` (R311). -/
def exec_rrc_l (s : State) : Result := done 0xCB0D (rotTarget .rrc (.reg .l) s)

/-- `RRC (HL)` (R311). -/
def exec_rrc_mhl (s : State) : Result := done 0xCB0E (rotTarget .rrc .mem s)

/-- `RRC A` (R311). -/
def exec_rrc_a (s : State) : Result := done 0xCB0F (rotTarget .rrc (.reg .a) s)

/-- `RL B` (R312). -/
def exec_rl_b (s : State) : Result := done 0xCB10 (rotTarget .rl (.reg .b) s)

/-- `RL C` (R312). -/
def exec_rl_c (s : State) : Result := done 0xCB11 (rotTarget .rl (.reg .c) s)

/-- `RL D` (R312). -/
def exec_rl_d (s : State) : Result := done 0xCB12 (rotTarget .rl (.reg .d) s)

/-- `RL E` (R312). -/
def exec_rl_e (s : State) : Result := done 0xCB13 (rotTarget .rl (.reg .e) s)

/-- `RL H` (R312). -/
def exec_rl_h (s : State) : Result := done 0xCB14 (rotTarget .rl (.reg .h) s)

/-- `RL L` (R312). -/
def exec_rl_l (s : State) : Result := done 0xCB15 (rotTarget .rl (.reg .l) s)

/-- `RL (HL)` (R312). -/
def exec_rl_mhl (s : State) : Result := done 0xCB16 (rotTarget .rl .mem s)

/-- `RL A` (R312). -/
def exec_rl_a (s : State) : Result := done 0xCB17 (rotTarget .rl (.reg .a) s)

/-- `RR B` (R313). -/
def exec_rr_b (s : State) : Result := done 0xCB18 (rotTarget .rr (.reg .b) s)

/-- `RR C` (R313). -/
def exec_rr_c (s : State) : Result := done 0xCB19 (rotTarget .rr (.reg .c) s)

/-- `RR D` (R313). -/
def exec_rr_d (s : State) : Result := done 0xCB1A (rotTarget .rr (.reg .d) s)

/-- `RR E` (R313). -/
def exec_rr_e (s : State) : Result := done 0xCB1B (rotTarget .rr (.reg .e) s)

/-- `RR H` (R313). -/
def exec_rr_h (s : State) : Result := done 0xCB1C (rotTarget .rr (.reg .h) s)

/-- `RR L` (R313). -/
def exec_rr_l (s : State) : Result := done 0xCB1D (rotTarget .rr (.reg .l) s)

/-- `RR (HL)` (R313). -/
def exec_rr_mhl (s : State) : Result := done 0xCB1E (rotTarget .rr .mem s)

/-- `RR A` (R313). -/
def exec_rr_a (s : State) : Result := done 0xCB1F (rotTarget .rr (.reg .a) s)

/-- `SLA B` (R314). -/
def exec_sla_b (s : State) : Result := done 0xCB20 (rotTarget .sla (.reg .b) s)

/-- `SLA C` (R314). -/
def exec_sla_c (s : State) : Result := done 0xCB21 (rotTarget .sla (.reg .c) s)

/-- `SLA D` (R314). -/
def exec_sla_d (s : State) : Result := done 0xCB22 (rotTarget .sla (.reg .d) s)

/-- `SLA E` (R314). -/
def exec_sla_e (s : State) : Result := done 0xCB23 (rotTarget .sla (.reg .e) s)

/-- `SLA H` (R314). -/
def exec_sla_h (s : State) : Result := done 0xCB24 (rotTarget .sla (.reg .h) s)

/-- `SLA L` (R314). -/
def exec_sla_l (s : State) : Result := done 0xCB25 (rotTarget .sla (.reg .l) s)

/-- `SLA (HL)` (R314). -/
def exec_sla_mhl (s : State) : Result := done 0xCB26 (rotTarget .sla .mem s)

/-- `SLA A` (R314). -/
def exec_sla_a (s : State) : Result := done 0xCB27 (rotTarget .sla (.reg .a) s)

/-- `SRA B` (R315). -/
def exec_sra_b (s : State) : Result := done 0xCB28 (rotTarget .sra (.reg .b) s)

/-- `SRA C` (R315). -/
def exec_sra_c (s : State) : Result := done 0xCB29 (rotTarget .sra (.reg .c) s)

/-- `SRA D` (R315). -/
def exec_sra_d (s : State) : Result := done 0xCB2A (rotTarget .sra (.reg .d) s)

/-- `SRA E` (R315). -/
def exec_sra_e (s : State) : Result := done 0xCB2B (rotTarget .sra (.reg .e) s)

/-- `SRA H` (R315). -/
def exec_sra_h (s : State) : Result := done 0xCB2C (rotTarget .sra (.reg .h) s)

/-- `SRA L` (R315). -/
def exec_sra_l (s : State) : Result := done 0xCB2D (rotTarget .sra (.reg .l) s)

/-- `SRA (HL)` (R315). -/
def exec_sra_mhl (s : State) : Result := done 0xCB2E (rotTarget .sra .mem s)

/-- `SRA A` (R315). -/
def exec_sra_a (s : State) : Result := done 0xCB2F (rotTarget .sra (.reg .a) s)

/-- `SWAP B` (R316). -/
def exec_swap_b (s : State) : Result := done 0xCB30 (rotTarget .swap (.reg .b) s)

/-- `SWAP C` (R316). -/
def exec_swap_c (s : State) : Result := done 0xCB31 (rotTarget .swap (.reg .c) s)

/-- `SWAP D` (R316). -/
def exec_swap_d (s : State) : Result := done 0xCB32 (rotTarget .swap (.reg .d) s)

/-- `SWAP E` (R316). -/
def exec_swap_e (s : State) : Result := done 0xCB33 (rotTarget .swap (.reg .e) s)

/-- `SWAP H` (R316). -/
def exec_swap_h (s : State) : Result := done 0xCB34 (rotTarget .swap (.reg .h) s)

/-- `SWAP L` (R316). -/
def exec_swap_l (s : State) : Result := done 0xCB35 (rotTarget .swap (.reg .l) s)

/-- `SWAP (HL)` (R316). -/
def exec_swap_mhl (s : State) : Result := done 0xCB36 (rotTarget .swap .mem s)

/-- `SWAP A` (R316). -/
def exec_swap_a (s : State) : Result := done 0xCB37 (rotTarget .swap (.reg .a) s)

/-- `SRL B` (R317). -/
def exec_srl_b (s : State) : Result := done 0xCB38 (rotTarget .srl (.reg .b) s)

/-- `SRL C` (R317). -/
def exec_srl_c (s : State) : Result := done 0xCB39 (rotTarget .srl (.reg .c) s)

/-- `SRL D` (R317). -/
def exec_srl_d (s : State) : Result := done 0xCB3A (rotTarget .srl (.reg .d) s)

/-- `SRL E` (R317). -/
def exec_srl_e (s : State) : Result := done 0xCB3B (rotTarget .srl (.reg .e) s)

/-- `SRL H` (R317). -/
def exec_srl_h (s : State) : Result := done 0xCB3C (rotTarget .srl (.reg .h) s)

/-- `SRL L` (R317). -/
def exec_srl_l (s : State) : Result := done 0xCB3D (rotTarget .srl (.reg .l) s)

/-- `SRL (HL)` (R317). -/
def exec_srl_mhl (s : State) : Result := done 0xCB3E (rotTarget .srl .mem s)

/-- `SRL A` (R317). -/
def exec_srl_a (s : State) : Result := done 0xCB3F (rotTarget .srl (.reg .a) s)

/-- `BIT 0,B` (R320). -/
def exec_bit_0_b (s : State) : Result := done 0xCB40 (bitTarget 0 (.reg .b) s)

/-- `BIT 0,C` (R320). -/
def exec_bit_0_c (s : State) : Result := done 0xCB41 (bitTarget 0 (.reg .c) s)

/-- `BIT 0,D` (R320). -/
def exec_bit_0_d (s : State) : Result := done 0xCB42 (bitTarget 0 (.reg .d) s)

/-- `BIT 0,E` (R320). -/
def exec_bit_0_e (s : State) : Result := done 0xCB43 (bitTarget 0 (.reg .e) s)

/-- `BIT 0,H` (R320). -/
def exec_bit_0_h (s : State) : Result := done 0xCB44 (bitTarget 0 (.reg .h) s)

/-- `BIT 0,L` (R320). -/
def exec_bit_0_l (s : State) : Result := done 0xCB45 (bitTarget 0 (.reg .l) s)

/-- `BIT 0,(HL)` (R321). -/
def exec_bit_0_mhl (s : State) : Result := done 0xCB46 (bitTarget 0 .mem s)

/-- `BIT 0,A` (R320). -/
def exec_bit_0_a (s : State) : Result := done 0xCB47 (bitTarget 0 (.reg .a) s)

/-- `BIT 1,B` (R320). -/
def exec_bit_1_b (s : State) : Result := done 0xCB48 (bitTarget 1 (.reg .b) s)

/-- `BIT 1,C` (R320). -/
def exec_bit_1_c (s : State) : Result := done 0xCB49 (bitTarget 1 (.reg .c) s)

/-- `BIT 1,D` (R320). -/
def exec_bit_1_d (s : State) : Result := done 0xCB4A (bitTarget 1 (.reg .d) s)

/-- `BIT 1,E` (R320). -/
def exec_bit_1_e (s : State) : Result := done 0xCB4B (bitTarget 1 (.reg .e) s)

/-- `BIT 1,H` (R320). -/
def exec_bit_1_h (s : State) : Result := done 0xCB4C (bitTarget 1 (.reg .h) s)

/-- `BIT 1,L` (R320). -/
def exec_bit_1_l (s : State) : Result := done 0xCB4D (bitTarget 1 (.reg .l) s)

/-- `BIT 1,(HL)` (R321). -/
def exec_bit_1_mhl (s : State) : Result := done 0xCB4E (bitTarget 1 .mem s)

/-- `BIT 1,A` (R320). -/
def exec_bit_1_a (s : State) : Result := done 0xCB4F (bitTarget 1 (.reg .a) s)

/-- `BIT 2,B` (R320). -/
def exec_bit_2_b (s : State) : Result := done 0xCB50 (bitTarget 2 (.reg .b) s)

/-- `BIT 2,C` (R320). -/
def exec_bit_2_c (s : State) : Result := done 0xCB51 (bitTarget 2 (.reg .c) s)

/-- `BIT 2,D` (R320). -/
def exec_bit_2_d (s : State) : Result := done 0xCB52 (bitTarget 2 (.reg .d) s)

/-- `BIT 2,E` (R320). -/
def exec_bit_2_e (s : State) : Result := done 0xCB53 (bitTarget 2 (.reg .e) s)

/-- `BIT 2,H` (R320). -/
def exec_bit_2_h (s : State) : Result := done 0xCB54 (bitTarget 2 (.reg .h) s)

/-- `BIT 2,L` (R320). -/
def exec_bit_2_l (s : State) : Result := done 0xCB55 (bitTarget 2 (.reg .l) s)

/-- `BIT 2,(HL)` (R321). -/
def exec_bit_2_mhl (s : State) : Result := done 0xCB56 (bitTarget 2 .mem s)

/-- `BIT 2,A` (R320). -/
def exec_bit_2_a (s : State) : Result := done 0xCB57 (bitTarget 2 (.reg .a) s)

/-- `BIT 3,B` (R320). -/
def exec_bit_3_b (s : State) : Result := done 0xCB58 (bitTarget 3 (.reg .b) s)

/-- `BIT 3,C` (R320). -/
def exec_bit_3_c (s : State) : Result := done 0xCB59 (bitTarget 3 (.reg .c) s)

/-- `BIT 3,D` (R320). -/
def exec_bit_3_d (s : State) : Result := done 0xCB5A (bitTarget 3 (.reg .d) s)

/-- `BIT 3,E` (R320). -/
def exec_bit_3_e (s : State) : Result := done 0xCB5B (bitTarget 3 (.reg .e) s)

/-- `BIT 3,H` (R320). -/
def exec_bit_3_h (s : State) : Result := done 0xCB5C (bitTarget 3 (.reg .h) s)

/-- `BIT 3,L` (R320). -/
def exec_bit_3_l (s : State) : Result := done 0xCB5D (bitTarget 3 (.reg .l) s)

/-- `BIT 3,(HL)` (R321). -/
def exec_bit_3_mhl (s : State) : Result := done 0xCB5E (bitTarget 3 .mem s)

/-- `BIT 3,A` (R320). -/
def exec_bit_3_a (s : State) : Result := done 0xCB5F (bitTarget 3 (.reg .a) s)

/-- `BIT 4,B` (R320). -/
def exec_bit_4_b (s : State) : Result := done 0xCB60 (bitTarget 4 (.reg .b) s)

/-- `BIT 4,C` (R320). -/
def exec_bit_4_c (s : State) : Result := done 0xCB61 (bitTarget 4 (.reg .c) s)

/-- `BIT 4,D` (R320). -/
def exec_bit_4_d (s : State) : Result := done 0xCB62 (bitTarget 4 (.reg .d) s)

/-- `BIT 4,E` (R320). -/
def exec_bit_4_e (s : State) : Result := done 0xCB63 (bitTarget 4 (.reg .e) s)

/-- `BIT 4,H` (R320). -/
def exec_bit_4_h (s : State) : Result := done 0xCB64 (bitTarget 4 (.reg .h) s)

/-- `BIT 4,L` (R320). -/
def exec_bit_4_l (s : State) : Result := done 0xCB65 (bitTarget 4 (.reg .l) s)

/-- `BIT 4,(HL)` (R321). -/
def exec_bit_4_mhl (s : State) : Result := done 0xCB66 (bitTarget 4 .mem s)

/-- `BIT 4,A` (R320). -/
def exec_bit_4_a (s : State) : Result := done 0xCB67 (bitTarget 4 (.reg .a) s)

/-- `BIT 5,B` (R320). -/
def exec_bit_5_b (s : State) : Result := done 0xCB68 (bitTarget 5 (.reg .b) s)

/-- `BIT 5,C` (R320). -/
def exec_bit_5_c (s : State) : Result := done 0xCB69 (bitTarget 5 (.reg .c) s)

/-- `BIT 5,D` (R320). -/
def exec_bit_5_d (s : State) : Result := done 0xCB6A (bitTarget 5 (.reg .d) s)

/-- `BIT 5,E` (R320). -/
def exec_bit_5_e (s : State) : Result := done 0xCB6B (bitTarget 5 (.reg .e) s)

/-- `BIT 5,H` (R320). -/
def exec_bit_5_h (s : State) : Result := done 0xCB6C (bitTarget 5 (.reg .h) s)

/-- `BIT 5,L` (R320). -/
def exec_bit_5_l (s : State) : Result := done 0xCB6D (bitTarget 5 (.reg .l) s)

/-- `BIT 5,(HL)` (R321). -/
def exec_bit_5_mhl (s : State) : Result := done 0xCB6E (bitTarget 5 .mem s)

/-- `BIT 5,A` (R320). -/
def exec_bit_5_a (s : State) : Result := done 0xCB6F (bitTarget 5 (.reg .a) s)

/-- `BIT 6,B` (R320). -/
def exec_bit_6_b (s : State) : Result := done 0xCB70 (bitTarget 6 (.reg .b) s)

/-- `BIT 6,C` (R320). -/
def exec_bit_6_c (s : State) : Result := done 0xCB71 (bitTarget 6 (.reg .c) s)

/-- `BIT 6,D` (R320). -/
def exec_bit_6_d (s : State) : Result := done 0xCB72 (bitTarget 6 (.reg .d) s)

/-- `BIT 6,E` (R320). -/
def exec_bit_6_e (s : State) : Result := done 0xCB73 (bitTarget 6 (.reg .e) s)

/-- `BIT 6,H` (R320). -/
def exec_bit_6_h (s : State) : Result := done 0xCB74 (bitTarget 6 (.reg .h) s)

/-- `BIT 6,L` (R320). -/
def exec_bit_6_l (s : State) : Result := done 0xCB75 (bitTarget 6 (.reg .l) s)

/-- `BIT 6,(HL)` (R321). -/
def exec_bit_6_mhl (s : State) : Result := done 0xCB76 (bitTarget 6 .mem s)

/-- `BIT 6,A` (R320). -/
def exec_bit_6_a (s : State) : Result := done 0xCB77 (bitTarget 6 (.reg .a) s)

/-- `BIT 7,B` (R320). -/
def exec_bit_7_b (s : State) : Result := done 0xCB78 (bitTarget 7 (.reg .b) s)

/-- `BIT 7,C` (R320). -/
def exec_bit_7_c (s : State) : Result := done 0xCB79 (bitTarget 7 (.reg .c) s)

/-- `BIT 7,D` (R320). -/
def exec_bit_7_d (s : State) : Result := done 0xCB7A (bitTarget 7 (.reg .d) s)

/-- `BIT 7,E` (R320). -/
def exec_bit_7_e (s : State) : Result := done 0xCB7B (bitTarget 7 (.reg .e) s)

/-- `BIT 7,H` (R320). -/
def exec_bit_7_h (s : State) : Result := done 0xCB7C (bitTarget 7 (.reg .h) s)

/-- `BIT 7,L` (R320). -/
def exec_bit_7_l (s : State) : Result := done 0xCB7D (bitTarget 7 (.reg .l) s)

/-- `BIT 7,(HL)` (R321). -/
def exec_bit_7_mhl (s : State) : Result := done 0xCB7E (bitTarget 7 .mem s)

/-- `BIT 7,A` (R320). -/
def exec_bit_7_a (s : State) : Result := done 0xCB7F (bitTarget 7 (.reg .a) s)

/-- `RES 0,B` (R322). -/
def exec_res_0_b (s : State) : Result := done 0xCB80 (resTarget 0 (.reg .b) s)

/-- `RES 0,C` (R322). -/
def exec_res_0_c (s : State) : Result := done 0xCB81 (resTarget 0 (.reg .c) s)

/-- `RES 0,D` (R322). -/
def exec_res_0_d (s : State) : Result := done 0xCB82 (resTarget 0 (.reg .d) s)

/-- `RES 0,E` (R322). -/
def exec_res_0_e (s : State) : Result := done 0xCB83 (resTarget 0 (.reg .e) s)

/-- `RES 0,H` (R322). -/
def exec_res_0_h (s : State) : Result := done 0xCB84 (resTarget 0 (.reg .h) s)

/-- `RES 0,L` (R322). -/
def exec_res_0_l (s : State) : Result := done 0xCB85 (resTarget 0 (.reg .l) s)

/-- `RES 0,(HL)` (R323). -/
def exec_res_0_mhl (s : State) : Result := done 0xCB86 (resTarget 0 .mem s)

/-- `RES 0,A` (R322). -/
def exec_res_0_a (s : State) : Result := done 0xCB87 (resTarget 0 (.reg .a) s)

/-- `RES 1,B` (R322). -/
def exec_res_1_b (s : State) : Result := done 0xCB88 (resTarget 1 (.reg .b) s)

/-- `RES 1,C` (R322). -/
def exec_res_1_c (s : State) : Result := done 0xCB89 (resTarget 1 (.reg .c) s)

/-- `RES 1,D` (R322). -/
def exec_res_1_d (s : State) : Result := done 0xCB8A (resTarget 1 (.reg .d) s)

/-- `RES 1,E` (R322). -/
def exec_res_1_e (s : State) : Result := done 0xCB8B (resTarget 1 (.reg .e) s)

/-- `RES 1,H` (R322). -/
def exec_res_1_h (s : State) : Result := done 0xCB8C (resTarget 1 (.reg .h) s)

/-- `RES 1,L` (R322). -/
def exec_res_1_l (s : State) : Result := done 0xCB8D (resTarget 1 (.reg .l) s)

/-- `RES 1,(HL)` (R323). -/
def exec_res_1_mhl (s : State) : Result := done 0xCB8E (resTarget 1 .mem s)

/-- `RES 1,A` (R322). -/
def exec_res_1_a (s : State) : Result := done 0xCB8F (resTarget 1 (.reg .a) s)

/-- `RES 2,B` (R322). -/
def exec_res_2_b (s : State) : Result := done 0xCB90 (resTarget 2 (.reg .b) s)

/-- `RES 2,C` (R322). -/
def exec_res_2_c (s : State) : Result := done 0xCB91 (resTarget 2 (.reg .c) s)

/-- `RES 2,D` (R322). -/
def exec_res_2_d (s : State) : Result := done 0xCB92 (resTarget 2 (.reg .d) s)

/-- `RES 2,E` (R322). -/
def exec_res_2_e (s : State) : Result := done 0xCB93 (resTarget 2 (.reg .e) s)

/-- `RES 2,H` (R322). -/
def exec_res_2_h (s : State) : Result := done 0xCB94 (resTarget 2 (.reg .h) s)

/-- `RES 2,L` (R322). -/
def exec_res_2_l (s : State) : Result := done 0xCB95 (resTarget 2 (.reg .l) s)

/-- `RES 2,(HL)` (R323). -/
def exec_res_2_mhl (s : State) : Result := done 0xCB96 (resTarget 2 .mem s)

/-- `RES 2,A` (R322). -/
def exec_res_2_a (s : State) : Result := done 0xCB97 (resTarget 2 (.reg .a) s)

/-- `RES 3,B` (R322). -/
def exec_res_3_b (s : State) : Result := done 0xCB98 (resTarget 3 (.reg .b) s)

/-- `RES 3,C` (R322). -/
def exec_res_3_c (s : State) : Result := done 0xCB99 (resTarget 3 (.reg .c) s)

/-- `RES 3,D` (R322). -/
def exec_res_3_d (s : State) : Result := done 0xCB9A (resTarget 3 (.reg .d) s)

/-- `RES 3,E` (R322). -/
def exec_res_3_e (s : State) : Result := done 0xCB9B (resTarget 3 (.reg .e) s)

/-- `RES 3,H` (R322). -/
def exec_res_3_h (s : State) : Result := done 0xCB9C (resTarget 3 (.reg .h) s)

/-- `RES 3,L` (R322). -/
def exec_res_3_l (s : State) : Result := done 0xCB9D (resTarget 3 (.reg .l) s)

/-- `RES 3,(HL)` (R323). -/
def exec_res_3_mhl (s : State) : Result := done 0xCB9E (resTarget 3 .mem s)

/-- `RES 3,A` (R322). -/
def exec_res_3_a (s : State) : Result := done 0xCB9F (resTarget 3 (.reg .a) s)

/-- `RES 4,B` (R322). -/
def exec_res_4_b (s : State) : Result := done 0xCBA0 (resTarget 4 (.reg .b) s)

/-- `RES 4,C` (R322). -/
def exec_res_4_c (s : State) : Result := done 0xCBA1 (resTarget 4 (.reg .c) s)

/-- `RES 4,D` (R322). -/
def exec_res_4_d (s : State) : Result := done 0xCBA2 (resTarget 4 (.reg .d) s)

/-- `RES 4,E` (R322). -/
def exec_res_4_e (s : State) : Result := done 0xCBA3 (resTarget 4 (.reg .e) s)

/-- `RES 4,H` (R322). -/
def exec_res_4_h (s : State) : Result := done 0xCBA4 (resTarget 4 (.reg .h) s)

/-- `RES 4,L` (R322). -/
def exec_res_4_l (s : State) : Result := done 0xCBA5 (resTarget 4 (.reg .l) s)

/-- `RES 4,(HL)` (R323). -/
def exec_res_4_mhl (s : State) : Result := done 0xCBA6 (resTarget 4 .mem s)

/-- `RES 4,A` (R322). -/
def exec_res_4_a (s : State) : Result := done 0xCBA7 (resTarget 4 (.reg .a) s)

/-- `RES 5,B` (R322). -/
def exec_res_5_b (s : State) : Result := done 0xCBA8 (resTarget 5 (.reg .b) s)

/-- `RES 5,C` (R322). -/
def exec_res_5_c (s : State) : Result := done 0xCBA9 (resTarget 5 (.reg .c) s)

/-- `RES 5,D` (R322). -/
def exec_res_5_d (s : State) : Result := done 0xCBAA (resTarget 5 (.reg .d) s)

/-- `RES 5,E` (R322). -/
def exec_res_5_e (s : State) : Result := done 0xCBAB (resTarget 5 (.reg .e) s)

/-- `RES 5,H` (R322). -/
def exec_res_5_h (s : State) : Result := done 0xCBAC (resTarget 5 (.reg .h) s)

/-- `RES 5,L` (R322). -/
def exec_res_5_l (s : State) : Result := done 0xCBAD (resTarget 5 (.reg .l) s)

/-- `RES 5,(HL)` (R323). -/
def exec_res_5_mhl (s : State) : Result := done 0xCBAE (resTarget 5 .mem s)

/-- `RES 5,A` (R322). -/
def exec_res_5_a (s : State) : Result := done 0xCBAF (resTarget 5 (.reg .a) s)

/-- `RES 6,B` (R322). -/
def exec_res_6_b (s : State) : Result := done 0xCBB0 (resTarget 6 (.reg .b) s)

/-- `RES 6,C` (R322). -/
def exec_res_6_c (s : State) : Result := done 0xCBB1 (resTarget 6 (.reg .c) s)

/-- `RES 6,D` (R322). -/
def exec_res_6_d (s : State) : Result := done 0xCBB2 (resTarget 6 (.reg .d) s)

/-- `RES 6,E` (R322). -/
def exec_res_6_e (s : State) : Result := done 0xCBB3 (resTarget 6 (.reg .e) s)

/-- `RES 6,H` (R322). -/
def exec_res_6_h (s : State) : Result := done 0xCBB4 (resTarget 6 (.reg .h) s)

/-- `RES 6,L` (R322). -/
def exec_res_6_l (s : State) : Result := done 0xCBB5 (resTarget 6 (.reg .l) s)

/-- `RES 6,(HL)` (R323). -/
def exec_res_6_mhl (s : State) : Result := done 0xCBB6 (resTarget 6 .mem s)

/-- `RES 6,A` (R322). -/
def exec_res_6_a (s : State) : Result := done 0xCBB7 (resTarget 6 (.reg .a) s)

/-- `RES 7,B` (R322). -/
def exec_res_7_b (s : State) : Result := done 0xCBB8 (resTarget 7 (.reg .b) s)

/-- `RES 7,C` (R322). -/
def exec_res_7_c (s : State) : Result := done 0xCBB9 (resTarget 7 (.reg .c) s)

/-- `RES 7,D` (R322). -/
def exec_res_7_d (s : State) : Result := done 0xCBBA (resTarget 7 (.reg .d) s)

/-- `RES 7,E` (R322). -/
def exec_res_7_e (s : State) : Result := done 0xCBBB (resTarget 7 (.reg .e) s)

/-- `RES 7,H` (R322). -/
def exec_res_7_h (s : State) : Result := done 0xCBBC (resTarget 7 (.reg .h) s)

/-- `RES 7,L` (R322). -/
def exec_res_7_l (s : State) : Result := done 0xCBBD (resTarget 7 (.reg .l) s)

/-- `RES 7,(HL)` (R323). -/
def exec_res_7_mhl (s : State) : Result := done 0xCBBE (resTarget 7 .mem s)

/-- `RES 7,A` (R322). -/
def exec_res_7_a (s : State) : Result := done 0xCBBF (resTarget 7 (.reg .a) s)

/-- `SET 0,B` (R324). -/
def exec_set_0_b (s : State) : Result := done 0xCBC0 (setTargetBit 0 (.reg .b) s)

/-- `SET 0,C` (R324). -/
def exec_set_0_c (s : State) : Result := done 0xCBC1 (setTargetBit 0 (.reg .c) s)

/-- `SET 0,D` (R324). -/
def exec_set_0_d (s : State) : Result := done 0xCBC2 (setTargetBit 0 (.reg .d) s)

/-- `SET 0,E` (R324). -/
def exec_set_0_e (s : State) : Result := done 0xCBC3 (setTargetBit 0 (.reg .e) s)

/-- `SET 0,H` (R324). -/
def exec_set_0_h (s : State) : Result := done 0xCBC4 (setTargetBit 0 (.reg .h) s)

/-- `SET 0,L` (R324). -/
def exec_set_0_l (s : State) : Result := done 0xCBC5 (setTargetBit 0 (.reg .l) s)

/-- `SET 0,(HL)` (R325). -/
def exec_set_0_mhl (s : State) : Result := done 0xCBC6 (setTargetBit 0 .mem s)

/-- `SET 0,A` (R324). -/
def exec_set_0_a (s : State) : Result := done 0xCBC7 (setTargetBit 0 (.reg .a) s)

/-- `SET 1,B` (R324). -/
def exec_set_1_b (s : State) : Result := done 0xCBC8 (setTargetBit 1 (.reg .b) s)

/-- `SET 1,C` (R324). -/
def exec_set_1_c (s : State) : Result := done 0xCBC9 (setTargetBit 1 (.reg .c) s)

/-- `SET 1,D` (R324). -/
def exec_set_1_d (s : State) : Result := done 0xCBCA (setTargetBit 1 (.reg .d) s)

/-- `SET 1,E` (R324). -/
def exec_set_1_e (s : State) : Result := done 0xCBCB (setTargetBit 1 (.reg .e) s)

/-- `SET 1,H` (R324). -/
def exec_set_1_h (s : State) : Result := done 0xCBCC (setTargetBit 1 (.reg .h) s)

/-- `SET 1,L` (R324). -/
def exec_set_1_l (s : State) : Result := done 0xCBCD (setTargetBit 1 (.reg .l) s)

/-- `SET 1,(HL)` (R325). -/
def exec_set_1_mhl (s : State) : Result := done 0xCBCE (setTargetBit 1 .mem s)

/-- `SET 1,A` (R324). -/
def exec_set_1_a (s : State) : Result := done 0xCBCF (setTargetBit 1 (.reg .a) s)

/-- `SET 2,B` (R324). -/
def exec_set_2_b (s : State) : Result := done 0xCBD0 (setTargetBit 2 (.reg .b) s)

/-- `SET 2,C` (R324). -/
def exec_set_2_c (s : State) : Result := done 0xCBD1 (setTargetBit 2 (.reg .c) s)

/-- `SET 2,D` (R324). -/
def exec_set_2_d (s : State) : Result := done 0xCBD2 (setTargetBit 2 (.reg .d) s)

/-- `SET 2,E` (R324). -/
def exec_set_2_e (s : State) : Result := done 0xCBD3 (setTargetBit 2 (.reg .e) s)

/-- `SET 2,H` (R324). -/
def exec_set_2_h (s : State) : Result := done 0xCBD4 (setTargetBit 2 (.reg .h) s)

/-- `SET 2,L` (R324). -/
def exec_set_2_l (s : State) : Result := done 0xCBD5 (setTargetBit 2 (.reg .l) s)

/-- `SET 2,(HL)` (R325). -/
def exec_set_2_mhl (s : State) : Result := done 0xCBD6 (setTargetBit 2 .mem s)

/-- `SET 2,A` (R324). -/
def exec_set_2_a (s : State) : Result := done 0xCBD7 (setTargetBit 2 (.reg .a) s)

/-- `SET 3,B` (R324). -/
def exec_set_3_b (s : State) : Result := done 0xCBD8 (setTargetBit 3 (.reg .b) s)

/-- `SET 3,C` (R324). -/
def exec_set_3_c (s : State) : Result := done 0xCBD9 (setTargetBit 3 (.reg .c) s)

/-- `SET 3,D` (R324). -/
def exec_set_3_d (s : State) : Result := done 0xCBDA (setTargetBit 3 (.reg .d) s)

/-- `SET 3,E` (R324). -/
def exec_set_3_e (s : State) : Result := done 0xCBDB (setTargetBit 3 (.reg .e) s)

/-- `SET 3,H` (R324). -/
def exec_set_3_h (s : State) : Result := done 0xCBDC (setTargetBit 3 (.reg .h) s)

/-- `SET 3,L` (R324). -/
def exec_set_3_l (s : State) : Result := done 0xCBDD (setTargetBit 3 (.reg .l) s)

/-- `SET 3,(HL)` (R325). -/
def exec_set_3_mhl (s : State) : Result := done 0xCBDE (setTargetBit 3 .mem s)

/-- `SET 3,A` (R324). -/
def exec_set_3_a (s : State) : Result := done 0xCBDF (setTargetBit 3 (.reg .a) s)

/-- `SET 4,B` (R324). -/
def exec_set_4_b (s : State) : Result := done 0xCBE0 (setTargetBit 4 (.reg .b) s)

/-- `SET 4,C` (R324). -/
def exec_set_4_c (s : State) : Result := done 0xCBE1 (setTargetBit 4 (.reg .c) s)

/-- `SET 4,D` (R324). -/
def exec_set_4_d (s : State) : Result := done 0xCBE2 (setTargetBit 4 (.reg .d) s)

/-- `SET 4,E` (R324). -/
def exec_set_4_e (s : State) : Result := done 0xCBE3 (setTargetBit 4 (.reg .e) s)

/-- `SET 4,H` (R324). -/
def exec_set_4_h (s : State) : Result := done 0xCBE4 (setTargetBit 4 (.reg .h) s)

/-- `SET 4,L` (R324). -/
def exec_set_4_l (s : State) : Result := done 0xCBE5 (setTargetBit 4 (.reg .l) s)

/-- `SET 4,(HL)` (R325). -/
def exec_set_4_mhl (s : State) : Result := done 0xCBE6 (setTargetBit 4 .mem s)

/-- `SET 4,A` (R324). -/
def exec_set_4_a (s : State) : Result := done 0xCBE7 (setTargetBit 4 (.reg .a) s)

/-- `SET 5,B` (R324). -/
def exec_set_5_b (s : State) : Result := done 0xCBE8 (setTargetBit 5 (.reg .b) s)

/-- `SET 5,C` (R324). -/
def exec_set_5_c (s : State) : Result := done 0xCBE9 (setTargetBit 5 (.reg .c) s)

/-- `SET 5,D` (R324). -/
def exec_set_5_d (s : State) : Result := done 0xCBEA (setTargetBit 5 (.reg .d) s)

/-- `SET 5,E` (R324). -/
def exec_set_5_e (s : State) : Result := done 0xCBEB (setTargetBit 5 (.reg .e) s)

/-- `SET 5,H` (R324). -/
def exec_set_5_h (s : State) : Result := done 0xCBEC (setTargetBit 5 (.reg .h) s)

/-- `SET 5,L` (R324). -/
def exec_set_5_l (s : State) : Result := done 0xCBED (setTargetBit 5 (.reg .l) s)

/-- `SET 5,(HL)` (R325). -/
def exec_set_5_mhl (s : State) : Result := done 0xCBEE (setTargetBit 5 .mem s)

/-- `SET 5,A` (R324). -/
def exec_set_5_a (s : State) : Result := done 0xCBEF (setTargetBit 5 (.reg .a) s)

/-- `SET 6,B` (R324). -/
def exec_set_6_b (s : State) : Result := done 0xCBF0 (setTargetBit 6 (.reg .b) s)

/-- `SET 6,C` (R324). -/
def exec_set_6_c (s : State) : Result := done 0xCBF1 (setTargetBit 6 (.reg .c) s)

/-- `SET 6,D` (R324). -/
def exec_set_6_d (s : State) : Result := done 0xCBF2 (setTargetBit 6 (.reg .d) s)

/-- `SET 6,E` (R324). -/
def exec_set_6_e (s : State) : Result := done 0xCBF3 (setTargetBit 6 (.reg .e) s)

/-- `SET 6,H` (R324). -/
def exec_set_6_h (s : State) : Result := done 0xCBF4 (setTargetBit 6 (.reg .h) s)

/-- `SET 6,L` (R324). -/
def exec_set_6_l (s : State) : Result := done 0xCBF5 (setTargetBit 6 (.reg .l) s)

/-- `SET 6,(HL)` (R325). -/
def exec_set_6_mhl (s : State) : Result := done 0xCBF6 (setTargetBit 6 .mem s)

/-- `SET 6,A` (R324). -/
def exec_set_6_a (s : State) : Result := done 0xCBF7 (setTargetBit 6 (.reg .a) s)

/-- `SET 7,B` (R324). -/
def exec_set_7_b (s : State) : Result := done 0xCBF8 (setTargetBit 7 (.reg .b) s)

/-- `SET 7,C` (R324). -/
def exec_set_7_c (s : State) : Result := done 0xCBF9 (setTargetBit 7 (.reg .c) s)

/-- `SET 7,D` (R324). -/
def exec_set_7_d (s : State) : Result := done 0xCBFA (setTargetBit 7 (.reg .d) s)

/-- `SET 7,E` (R324). -/
def exec_set_7_e (s : State) : Result := done 0xCBFB (setTargetBit 7 (.reg .e) s)

/-- `SET 7,H` (R324). -/
def exec_set_7_h (s : State) : Result := done 0xCBFC (setTargetBit 7 (.reg .h) s)

/-- `SET 7,L` (R324). -/
def exec_set_7_l (s : State) : Result := done 0xCBFD (setTargetBit 7 (.reg .l) s)

/-- `SET 7,(HL)` (R325). -/
def exec_set_7_mhl (s : State) : Result := done 0xCBFE (setTargetBit 7 .mem s)

/-- `SET 7,A` (R324). -/
def exec_set_7_a (s : State) : Result := done 0xCBFF (setTargetBit 7 (.reg .a) s)

end Sys2Proof.Machine
end

