-- ==== Sys2Proof/Machine/System.lean ====
section
/-!
DEFINITION. System instructions, the prefix entry and the eleven codes without a handler (46_system.md R360 to
R366).
-/

namespace Sys2Proof.Machine

/-- `HALT`: HALTED, whatever IME, IE and IF hold, with the snapshot of IF (R361). -/
def haltOp (s : State) : State := { s with run := .halted, hsnap := s.ifReg }.advance 1

/-- `STOP`: a speed switch is requested where the port is armed, else STOPPED; the pad byte is not read
(R362). -/
def stopOp (s : State) : State :=
  (if s.cfg.cgbMode && (s.io 0x4D).getLsbD 0 then { s with speedPend := true } else { s with run := .stopped }).advance 2

/-- `DI` and `EI` take effect at once (R363, R364). -/
def setIme (x : Bool) (s : State) : State := { s with ime := x }.advance 1

/-- A code without a handler: the fatal condition, and no cost (R366). -/
def raiseIllegal (b : Byte) (s : State) : Result := .next (s.raiseUnimplemented b)

/-! ## The meanings -/

/-- `NOP` (R360). -/
def exec_nop (s : State) : Result := done 0x00 (s.advance 1)

/-- `STOP` (R362). -/
def exec_stop (s : State) : Result := done 0x10 (stopOp s)

/-- `HALT` (R361). -/
def exec_halt (s : State) : Result := done 0x76 (haltOp s)

/-- `PREFIX CB` (R365). -/
def exec_prefix_cb (s : State) : Result := runPrefixed s

/-- `ILLEGAL D3` (R366). -/
def exec_illegal_d3 (s : State) : Result := raiseIllegal 0xD3#8 s

/-- `ILLEGAL DB` (R366). -/
def exec_illegal_db (s : State) : Result := raiseIllegal 0xDB#8 s

/-- `ILLEGAL DD` (R366). -/
def exec_illegal_dd (s : State) : Result := raiseIllegal 0xDD#8 s

/-- `ILLEGAL E3` (R366). -/
def exec_illegal_e3 (s : State) : Result := raiseIllegal 0xE3#8 s

/-- `ILLEGAL E4` (R366). -/
def exec_illegal_e4 (s : State) : Result := raiseIllegal 0xE4#8 s

/-- `ILLEGAL EB` (R366). -/
def exec_illegal_eb (s : State) : Result := raiseIllegal 0xEB#8 s

/-- `ILLEGAL EC` (R366). -/
def exec_illegal_ec (s : State) : Result := raiseIllegal 0xEC#8 s

/-- `ILLEGAL ED` (R366). -/
def exec_illegal_ed (s : State) : Result := raiseIllegal 0xED#8 s

/-- `DI` (R363). -/
def exec_di (s : State) : Result := done 0xF3 (setIme false s)

/-- `ILLEGAL F4` (R366). -/
def exec_illegal_f4 (s : State) : Result := raiseIllegal 0xF4#8 s

/-- `EI` (R364). -/
def exec_ei (s : State) : Result := done 0xFB (setIme true s)

/-- `ILLEGAL FC` (R366). -/
def exec_illegal_fc (s : State) : Result := raiseIllegal 0xFC#8 s

/-- `ILLEGAL FD` (R366). -/
def exec_illegal_fd (s : State) : Result := raiseIllegal 0xFD#8 s

end Sys2Proof.Machine
end

