-- ==== Sys2Proof/Machine/Timer.lean ====
section
/-!
DEFINITION. The timer subsystem (60_exceptions.md R450 to R457). Every write here is the direct write of the
bypass (20_memory.md R119).
-/

namespace Sys2Proof.Machine

/-- DIV_QUANTUM (00_scope.md R8). -/
def divQuantum : Nat := 256

/-- TIMA_PERIOD of the select field TAC[1:0] (R8, R46). -/
def timaPeriod (tac : Byte) : Nat :=
  match tac.getLsbD 1, tac.getLsbD 0 with
  | false, false => 1024
  | false, true => 16
  | true, false => 64
  | true, true => 256

/-- Line a of TimerAdvance: a pending speed switch (R450). -/
def State.speedSwitch (s : State) : State :=
  if s.speedPend then
    { s with divAcc := s.divAcc + s.cfg.speedSwitchStall, speed := !s.speed, speedPend := false }.setIo 0x4D
      (if s.speed then 0x00#8 else 0x80#8)
  else s

/-- Line b: both accumulators advance, the divider's doubled at double speed (R451). -/
def State.accumulate (s : State) (n : Nat) : State :=
  { s with divAcc := s.divAcc + (if s.speed then 2 * n else n), timAcc := s.timAcc + n }

/-- One turn of the loop of line c (R452). -/
def State.divTick (s : State) : State :=
  { s with divAcc := s.divAcc - divQuantum }.setIo 0x04 (s.io 0x04 + 1)

/-- `n` turns of the loop of line c. -/
def State.divTicks : Nat → State → State
  | 0, s => s
  | n + 1, s => State.divTicks n s.divTick

/-- Line c: the loop runs while DIVACC >= 256, that is DIVACC / 256 times (R452; log 19). -/
def State.runDivider (s : State) : State := State.divTicks (s.divAcc / divQuantum) s

/-- One counter event: overflow reloads TIMA from TMA and requests the Timer interrupt (R454). -/
def State.counterEvent (s : State) : State :=
  if s.io 0x05 = 0xFF#8 then (s.setIo 0x05 (s.io 0x06)).setIo 0x0F (s.ifReg ||| 0x04#8)
  else s.setIo 0x05 (s.io 0x05 + 1)

/-- `n` turns of the loop of line d with period `p` (R453). -/
def State.counterEvents (p : Nat) : Nat → State → State
  | 0, s => s
  | n + 1, s => State.counterEvents p n ({ s with timAcc := s.timAcc - p }.counterEvent)

/-- Line d: counter events while enabled, else the accumulator reduced modulo the period (R453; log 19). -/
def State.runCounter (s : State) : State :=
  let tac := s.io 0x07
  let p := timaPeriod tac
  if tac.getLsbD 2 then State.counterEvents p (s.timAcc / p) s else { s with timAcc := s.timAcc % p }

/-- `TimerAdvance(n)` (R455). -/
def State.timerAdvance (s : State) (n : Nat) : State := ((s.speedSwitch.accumulate n).runDivider).runCounter

end Sys2Proof.Machine
end

