-- ==== Sys2Proof/Machine/Engine.lean ====
section
/-!
DEFINITION. The stepping engine (60_exceptions.md R400): the numbered lines of `step()` as named functions, and
where a program is placed so that the next step fetches it.
-/

namespace Sys2Proof.Machine

/-- Line 2: a step begins with no cycles and no value returned. -/
def State.beginStep (s : State) : State := { s with elapsed := 0, returned := none, tick := s.tick + 1 }

/-- Line 3, the wake test: all 8 bits of IF against HSNAP (R402). -/
def State.wakeTest (s : State) : State :=
  if s.run = RunState.halted ∧ s.ifReg ≠ s.hsnap then { s with run := .running }.addCycles wakeCycles else s

/-- The controller is invoked iff IME = 1 or HSNAP ≠ 0 (R403). -/
def State.controllerInvoked (s : State) : Bool := s.ime || s.hsnap != 0#8

/-- The source line 4 serves, if any (R400, R403, R410). -/
def State.toServe (s : State) : Option (Fin 5) := if s.controllerInvoked then s.pending else none

/-- Line 4: at most one service; with IME = 0 it is the IME bypass event, which the policy may refuse (R406). -/
def State.controller (s : State) : Result :=
  match s.toServe with
  | none => .next s
  | some k =>
    if s.ime || s.cfg.imeBypass = BypassPolicy.serve then .next ((s.serve k).addCycles serviceCycles)
    else .refused .imeBypass

/-- The instruction at PC: the opcode byte, and the two bytes after it where the opcode takes them (R404;
log 22). -/
def State.fetch (s : State) : Instr :=
  decodeFetched (s.memRead s.pc) (s.memRead (s.pc + 1)) (s.memRead (s.pc + 2))

/-- Line 5: a halted tick, or one instruction. -/
def State.tickOrInstr (s : State) : Result :=
  if s.run = RunState.halted then .next (s.addCycles haltTickCycles) else exec s.fetch s

/-- Lines 6 and 7: the elapsed cycles go to the timer and are returned; a step that raised the fault ends before
them and returns no value (R430). -/
def State.endStep (s : State) : State :=
  if s.fault.isSome then s else { s.timerAdvance s.elapsed with returned := some s.elapsed }

/-- Lines 0 and 1: a step of an aborted session (R431) or a stopped block (R401) changes nothing and returns 0. -/
def State.idle (s : State) : Bool := s.fault.isSome || s.run = RunState.stopped

/-- The step that changes nothing and returns 0. -/
def State.idleStep (s : State) : State := { s with elapsed := 0, returned := some 0 }

/-- A result carried on. -/
def andThen (r : Result) (f : State → Result) : Result :=
  match r with
  | .next s => f s
  | .fault x => .fault x
  | .refused x => .refused x

/-- `step()` (R400). -/
def runStep (s : State) : Result :=
  if s.idle then .next s.idleStep
  else andThen s.beginStep.wakeTest.controller fun t => andThen t.tickOrInstr fun u => .next u.endStep

/-! ## Placing a program (log 11) -/

/-- The byte at CPU address `a` made `v`, whatever answers there: an overlay byte, a storage cell, IE, or the
answer a collaborator is known to give. -/
def State.placeByte (s : State) (a : Word) (v : Byte) : State :=
  match s.backing a with
  | .boot _ => { s with cfg := { s.cfg with bootBytes := cellsPut s.cfg.bootBytes a.toNat v } }
  | .cell k => s.store k v
  | .ie => { s with ie := v }
  | .ask _ => { s with known := cellsPut s.known a.toNat v }

/-- Bytes placed at ascending addresses from `a`. -/
def State.placeBytes (s : State) (a : Word) : List Byte → State
  | [] => s
  | v :: vs => (s.placeByte a v).placeBytes (a + 1) vs

/-- Nothing stands between the next step and its fetch: no recorded fault, RUNNING, and no service to make. In
a state that already has this, nothing changes. -/
def State.readyToFetch (s : State) : State :=
  let t := { s with fault := none, run := .running }
  if t.toServe.isSome then { t with ime := false, hsnap := 0 } else t

/-- The instruction with table word `w` placed at PC, with operand bytes of zero behind it. -/
def State.placeWord (s : State) (nbits w : Nat) : State :=
  (s.placeBytes s.pc ((tableBytes nbits w ++ [0#8, 0#8, 0#8]).take 3)).readyToFetch

end Sys2Proof.Machine
end

