-- ==== Sys2Proof/Machine/Step.lean ====
section
/-! DEFINITION. One step of the machine, and the word the next step fetches. The parts stand in Engine.lean. -/

namespace Sys2Proof.Machine

/-- `step()` (60_exceptions.md R400). -/
def step (s : State) : Host.Outcome State Fault Refusal := runStep s

/-- The instruction with table word `w` where the next step fetches it (log 10, log 11). -/
def State.withFetchWord (s : State) (nbits w : Nat) : State := s.placeWord nbits w

end Sys2Proof.Machine
end

