-- ==== Sys2Proof/Machine/Environment.lean ====
section
/-!
DEFINITION. What the host and the collaborators may do to the machine between steps, and nothing else
(60_exceptions.md R444; log 13): request an interrupt, reset, restore a snapshot, change what they answer, and
write video RAM for an HDMA request. `step` itself takes no such action.
-/

namespace Sys2Proof.Machine

/-- `request_interrupt(k)` (R412). -/
def State.requestInterrupt (s : State) (k : Fin 5) : State := s.setIo 0x0F (s.ifReg ||| sourceMask k)

/-- `reset()` as the host calls it: every state element takes its reset value and the collaborators keep
theirs (R480; log 21). It changes `IO[0x00]`, so the answer known for the joypad port lapses (R97; DESIGN CHOICE of
log 27, safe). -/
def State.hostReset (s : State) : State :=
  { State.resetWith s.cfg with known := s.forgetInput.known, calls := s.calls, tick := s.tick }

/-- Capture: every state element (R445). -/
def State.capture (s : State) : State := s

/-- Restore: every state element of R30 is replaced by the captured one; what is outside the block is not part
of a snapshot (R445; log 21). It replaces `IO[0x00]`, so the answer known for the joypad port lapses (R97; DESIGN
CHOICE of log 27, safe). -/
def State.restore (s snapshot : State) : State :=
  { snapshot with cfg := s.cfg, known := s.forgetInput.known, calls := s.calls, tick := s.tick }

/-- The launch state of R482, which a host may restore after reset on a machine without an overlay; A = 0x11
where CGB_MODE is set. -/
def State.launch (cfg : Config) : State :=
  { State.resetWith cfg with
    pc := 0x0100, sp := 0xFFFE, a := if cfg.cgbMode then 0x11 else 0x01, f := 0xB0, b := 0x00, c := 0x13, d := 0x00, e := 0xD8
    h := 0x01, l := 0x4D }

/-- The call that asks for an HDMA transfer (R99). -/
def Call.isHdma : Call → Bool
  | .hdma _ => true
  | .romWrite _ _ | .xramWrite _ _ | .audioWrite _ _ | .videoWrite _ _ => false

/-- An HDMA transfer has been asked for (R116), without which nobody outside writes video RAM (R444). Which of the
requests made the collaborator accepts, and when its writes end, is its own matter (log 6). -/
def State.hdmaAsked (s : State) : Bool := s.cfg.cgbMode && s.calls.any Call.isHdma

/-- A video-RAM byte the HDMA collaborator writes between steps, as the effect of a request made before; without
such a request nothing is written (R444; log 6). -/
def State.hdmaLater (s : State) (bank : BitVec 1) (offset : BitVec 13) (v : Byte) : State :=
  if s.hdmaAsked then s.hdmaByte (bank, offset, v) else s

/-- An action of the environment (R444). -/
inductive EnvAction where
  /-- A collaborator requests source `k`. -/
  | request (k : Fin 5)
  /-- The host resets the block. -/
  | reset
  /-- The persistence collaborator restores a snapshot. -/
  | restore (snapshot : State)
  /-- Collaborators' own state changes: from now on `answers` is what is known of their answers. -/
  | answers (cells : List Host.Cell)
  /-- The HDMA collaborator writes a video-RAM byte for a request it accepted. -/
  | vram (bank : BitVec 1) (offset : BitVec 13) (v : Byte)
  deriving DecidableEq, Repr

/-- The effect of an action. -/
def State.act (s : State) : EnvAction → State
  | .request k => s.requestInterrupt k
  | .reset => s.hostReset
  | .restore snapshot => s.restore snapshot
  | .answers cells => { s with known := cells, tick := s.tick + 1 }
  | .vram bank offset v => s.hdmaLater bank offset v

/-- A program image given by the cartridge: what `rom_read` is known to answer, in rising order (R95; log 11). -/
def State.withCartridge (s : State) (image : List Host.Cell) : State := { s with known := image }

end Sys2Proof.Machine
end

