-- ==== Sys2Proof/Safety.lean ====
section
/-!
DEFINITION. The terms claims are stated in: what a session that has ended is, the invariant of the states the
machine reaches, and the frame of a store.
-/

namespace Sys2Proof.Machine

/-! ## Ends of a session -/

/-- The session is aborted (60_exceptions.md R431). -/
def State.aborted (s : State) : Bool := s.fault.isSome

/-- The block stands in STOPPED, which nothing but reset leaves (R401). -/
def State.stoppedForGood (s : State) : Bool := s.fault.isNone && s.run = RunState.stopped

/-- The next step fetches an instruction, or ticks a halt: it is neither of the two no-ops of R400. -/
def State.live (s : State) : Bool := !s.idle

/-- A run of `n` steps from `s` in which every step was live: no illegal opcode and no STOPPED block was met. -/
def SafeRun : Nat → State → Prop
  | 0, _ => True
  | n + 1, s => s.live = true ∧ ∃ t, step s = .next t ∧ SafeRun n t

/-! ## The invariant of reachable states -/

/-- The storage cells that exist (10_state.md R57; log 17). -/
def storageCell (cgb : Bool) (k : Nat) : Bool :=
  let bank := k / 0x10000
  let n := k % 0x10000
  if bank = 0 then
    (decide (0x8000 ≤ n) && decide (n < 0xA000)) || (decide (0xC000 ≤ n) && decide (n < 0xD000))
      || (decide (0xFE00 ≤ n) && decide (n < 0xFEA0)) || (decide (0xFF00 ≤ n) && decide (n < 0xFFFF))
  else if bank = 1 then
    (decide (0xD000 ≤ n) && decide (n < 0xE000)) || (cgb && decide (0x8000 ≤ n) && decide (n < 0xA000))
  else cgb && decide (bank < 8) && decide (0xD000 ≤ n) && decide (n < 0xE000)

/-- What holds between steps in every state the machine reaches from reset. -/
structure State.Inv (s : State) : Prop where
  /-- Memory is in its canonical form. -/
  memCanonical : s.mem.wf = true
  /-- Only cells that exist are listed (R57). -/
  memExists : s.mem.all (fun x => storageCell s.cfg.cgbMode x.1) = true
  /-- F[3:0] = 0 (R33). -/
  lowNibble : s.f &&& 0x0F#8 = 0#8
  /-- DIVACC < 256 (R47). -/
  divAcc : s.divAcc < 256
  /-- TIMACC is below the longest period (R48). -/
  timAcc : s.timAcc < 1024
  /-- A pending switch is consumed by the step that requested it (R362, R450). -/
  noPending : s.speedPend = false
  /-- Without CGB_MODE the speed latch stays 0 (R49). -/
  speed : s.speed = true → s.cfg.cgbMode = true
  /-- Only the select bits of the joypad port are stored (R55). -/
  joypad : s.io 0x00 &&& 0xCF#8 = 0#8
  /-- The model's own list of known answers is in its canonical form. -/
  known : cellsRising s.known = true

/-- An action the environment may take (60_exceptions.md R444): a restored snapshot is one captured from this
machine, so it meets the invariant under the same parameters (R445; log 21), and what becomes known of the
collaborators' answers is a list in canonical form (log 4). -/
def EnvAction.permitted (s : State) : EnvAction → Prop
  | .restore snapshot => snapshot.Inv ∧ snapshot.cfg = s.cfg
  | .answers cells => cellsRising cells = true
  | .request _ | .reset | .vram _ _ _ => True

/-! ## The frame of a store -/

/-- The state `s` with the part of `t` that a `MemWrite` may change: storage, IE, BOOT_ON, and the model's own
record of what is outside. Registers, flags, PC, SP, IME, RUN, HSNAP, FAULT and the timer latches are those of
`s`. -/
def State.memorySide (s t : State) : State :=
  { s with mem := t.mem, ie := t.ie, bootOn := t.bootOn, known := t.known, calls := t.calls }

/-- A `MemWrite` at `a` calls a collaborator (20_memory.md R101). -/
def State.callsOut (s : State) (a : Word) : Bool :=
  let n := a.toNat
  decide (n < 0x8000) || (decide (0xA000 ≤ n) && decide (n < 0xC000))
    || (decide (0xFF00 < n) && n != 0xFF04 && n != 0xFF46 && n != 0xFF50
      && ((n == 0xFF55 && s.cfg.cgbMode) || inRanges s.cfg.audioOwned n || inRanges s.cfg.videoOwned n))

/-- A store at `a` is a bank select that moves the window `x` lies in (R104, R106, R107). -/
def State.movesWindow (s : State) (a x : Word) : Bool :=
  let n := unecho x.toNat
  s.cfg.cgbMode
    && ((a == 0xFF4F#16 && decide (0x8000 ≤ n) && decide (n < 0xA000))
      || (a == 0xFF70#16 && decide (0xD000 ≤ n) && decide (n < 0xE000)))

/-- A store at `a` leaves what a read of `x` gives: neither the byte `x` reaches nor what `x` reaches changes. An
answer from outside is left alone by a store that calls nobody, the joypad query by a store elsewhere. -/
def State.untouchedBy (s : State) (a x : Word) : Bool :=
  !s.movesWindow a x &&
    match s.backing x with
    | .boot _ => a != 0xFF50#16
    | .cell k => !s.writesCell a k
    | .ie => a != 0xFFFF#16
    | .ask _ => !s.callsOut a && (a != 0xFF00#16 || x != 0xFF00#16)

/-- `t` differs from `s` by a store at address `a` only: the frame of 20_memory.md R101, R125, R128. -/
structure State.StoredOnlyAt (s : State) (a : Word) (t : State) : Prop where
  /-- Every storage byte the address does not select holds what it held. -/
  cells : ∀ k, s.writesCell a k = false → t.mem.read k = s.mem.read k
  /-- Every other address reads as before. -/
  reads : ∀ x, s.untouchedBy a x = true → t.memRead x = s.memRead x
  /-- IE is changed at 0xFFFF only. -/
  ie : a ≠ 0xFFFF#16 → t.ie = s.ie
  /-- BOOT_ON is changed at 0xFF50 only. -/
  boot : a ≠ 0xFF50#16 → t.bootOn = s.bootOn
  /-- Nothing outside is called but at the addresses that call. -/
  calls : s.callsOut a = false → t.calls = s.calls
  /-- No answer stops being known but by a call or a write of the joypad port. -/
  known : s.callsOut a = false → a ≠ 0xFF00#16 → t.known = s.known

/-! ## Costs and addresses -/

/-- The default cost of an instruction, not taken or taken, is `n` cycles (30_encoding.md R166). -/
def costs (i : Instr) (taken : Bool) (n : Nat) : Prop :=
  ∀ c : Config, c.cycles = [] → cyclesOf c i.opcode taken = n

/-- The cycles of the step once the handler's are added (60_exceptions.md R400). -/
def State.elapsedAfter (s : State) (i : Instr) (taken : Bool) : Nat := s.elapsed + cyclesOf s.cfg i.opcode taken

/-- An address whose store is read back: video RAM, work RAM and its echo, the sprite table, high RAM, IE, and
every I/O port but the joypad port, the divider and the owned ports (20_memory.md R125). -/
def State.readsBack (s : State) (a : Word) : Bool :=
  let n := a.toNat
  (decide (0x8000 ≤ n) && decide (n < 0xA000)) || (decide (0xC000 ≤ n) && decide (n < 0xFEA0))
    || (decide (0xFF00 < n) && n != 0xFF04 && !inRanges s.cfg.audioOwned n && !inRanges s.cfg.videoOwned n)

/-- An address of RAM: storage whose only effect is its own byte (R104, R106 to R108, R117). -/
def ramAddress (a : Word) : Bool :=
  let n := a.toNat
  (decide (0x8000 ≤ n) && decide (n < 0xA000)) || (decide (0xC000 ≤ n) && decide (n < 0xFEA0))
    || (decide (0xFF80 ≤ n) && decide (n < 0xFFFF))

/-- What the end of a step makes of the state its instruction leaves: the cycles go to the timer and are returned,
unless the fault was raised (R400, R430). -/
def State.stepEnd (u : State) : State :=
  if u.fault.isSome then u else { u.timerAdvance u.elapsed with returned := some u.elapsed }

/-- One counter event on the pair TIMA, "overflowed yet", `tma` being the reload (R454). -/
def tickCounter (tma : Byte) (x : Byte × Bool) : Byte × Bool :=
  if x.1 = 0xFF#8 then (tma, true) else (x.1 + 1, x.2)

end Sys2Proof.Machine
end

