-- ==== Sys2Proof/Certificates/Slice0/Obligations.lean ====
section
/-!
DEFINITION. What is claimed of the model. An instruction is named by its shape (`Instr.form`); the result of an
instruction is a record update of the state before, so that every element not named is claimed unchanged, memory
included; a store names the address and the value it gives to `MemWrite`, and `StoredOnlyAt` claims its frame.
Costs are the opcode's entry of CYCLES, with the default number beside it; which value of the entry counts for an
opcode that is no conditional transfer is the model's choice (log 25).
-/

section

open Sys2Proof Sys2Proof.Machine

/-! ## Encoding -/

/-- Decoding inverts encoding for every instruction with a handler, whatever follows it (R151, R155; STOP's pad
byte is log 18). -/
def Obligations.DecodeInvertsEncode : Prop :=
  ∀ (i : Instr) (rest : List Byte), i.wellFormed = true → decode (encode i ++ rest) = .ok (i, rest)

/-- Bytes that decode to an instruction with a handler are its encoding; STOP is `0x10` and any byte (R151, R155,
R165). -/
def Obligations.EncodeInvertsDecode : Prop :=
  ∀ (bs : List Byte) (i : Instr) (rest : List Byte), decode bs = .ok (i, rest) → i.wellFormed = true →
    (i ≠ .stop → bs = encode i ++ rest) ∧ (i = .stop → ∃ pad, bs = 0x10#8 :: pad :: rest)

/-- Words written out bit by bit from the encodings of the instruction rules. -/
def Obligations.SpecWordsDecode : Prop :=
  decode [0b01000001#8] = .ok (.ld_b_c, []) ∧
  decode [0b00111110#8, 0x5A#8] = .ok (.ld_a_d8 0x5A#8, []) ∧
  decode [0b01110101#8] = .ok (.ld_mhl_l, []) ∧
  decode [0xFA#8, 0x04#8, 0xFF#8] = .ok (.ld_a_ma16 0xFF04#16, []) ∧
  decode [0b00110001#8, 0xFE#8, 0xFF#8] = .ok (.ld_sp_d16 0xFFFE#16, []) ∧
  decode [0b11110101#8] = .ok (.push_af, []) ∧
  decode [0b10001011#8] = .ok (.adc_a_e, []) ∧
  decode [0b00101011#8] = .ok (.dec_hl, []) ∧
  decode [0xCB#8, 0b00110111#8] = .ok (.swap_a, []) ∧
  decode [0xCB#8, 0b01100101#8] = .ok (.bit_4_l, []) ∧
  decode [0xCB#8, 0b10011110#8] = .ok (.res_3_mhl, []) ∧
  decode [0b00111000#8, 0xFC#8] = .ok (.jr_c_e8 0xFC#8, []) ∧
  decode [0b11101111#8] = .ok (.rst_28h, []) ∧
  decode [0x76#8] = .ok (.halt, []) ∧
  decode [0xDD#8] = .ok (.illegal_dd, [])

/-- Exactly eleven first bytes have no handler, and no second byte of the prefixed page lacks one (R152, R165). -/
def Obligations.ElevenOpcodesHaveNoHandler : Prop :=
  (∀ b0 b1 b2 : Byte, (decodeFetched b0 b1 b2).isIllegal = true ↔
    b0 ∈ [0xD3#8, 0xDB#8, 0xDD#8, 0xE3#8, 0xE4#8, 0xEB#8, 0xEC#8, 0xED#8, 0xF4#8, 0xFC#8, 0xFD#8]) ∧
  (∀ b1 b2 : Byte, (decodeFetched 0xCB#8 b1 b2).wellFormed = true)

/-! ## Registers and flags -/

/-- The register file: which element each register name reads, a written register reads back and no other changes,
the 16-bit views are computed from the registers, a write of AF clearing the low nibble, and the code each name has
in an encoding (R31, R32, R156 to R158). -/
def Obligations.RegisterFileAndViews : Prop :=
  ∀ (s : State) (r : Reg8) (v : Byte) (w : Word),
    (s.getReg .a = s.a ∧ s.getReg .b = s.b ∧ s.getReg .c = s.c ∧ s.getReg .d = s.d ∧ s.getReg .e = s.e ∧
      s.getReg .h = s.h ∧ s.getReg .l = s.l) ∧
    (s.setReg r v).getReg r = v ∧
    (∀ q, q ≠ r → (s.setReg r v).getReg q = s.getReg q) ∧
    { s.setReg r v with a := s.a, b := s.b, c := s.c, d := s.d, e := s.e, h := s.h, l := s.l } = s ∧
    (s.bc.toNat = 256 * s.b.toNat + s.c.toNat ∧ s.de.toNat = 256 * s.d.toNat + s.e.toNat ∧
      s.hl.toNat = 256 * s.h.toNat + s.l.toNat ∧ s.af.toNat = 256 * s.a.toNat + s.f.toNat) ∧
    s.setPair .bc w = { s with b := hi w, c := lo w } ∧ s.setPair .de w = { s with d := hi w, e := lo w } ∧
    s.setPair .hl w = { s with h := hi w, l := lo w } ∧ s.setPair .sp w = { s with sp := w } ∧
    s.setStackPair .af w = { s with a := hi w, f := lo w &&& 0xF0#8 } ∧
    (hi w).toNat = w.toNat / 256 ∧ (lo w).toNat = w.toNat % 256 ∧
    [Reg8.b, .c, .d, .e, .h, .l, .a].map Reg8.code = [0, 1, 2, 3, 4, 5, 7] ∧
    Target.mem.code = 6 ∧ (Target.reg r).code = r.code ∧
    [Pair.bc, .de, .hl, .sp].map Pair.code = [0, 1, 2, 3] ∧
    [StackPair.bc, .de, .hl, .af].map StackPair.code = [0, 1, 2, 3]

/-- The four flags are F[7] to F[4], each settable on its own; a write of the flags leaves F[3:0] and everything
else as it was (R33, R34). -/
def Obligations.FlagPositions : Prop :=
  ∀ (s : State) (x : Flags),
    s.fz = s.f.getLsbD 7 ∧ s.fn = s.f.getLsbD 6 ∧ s.fh = s.f.getLsbD 5 ∧ s.fc = s.f.getLsbD 4 ∧
    (s.setFlags x).fz = x.z ∧ (s.setFlags x).fn = x.n ∧ (s.setFlags x).fh = x.h ∧ (s.setFlags x).fc = x.c ∧
    (s.setFlags x).f &&& 0x0F#8 = s.f &&& 0x0F#8 ∧ { s.setFlags x with f := s.f } = s

/-! ## 8-bit loads -/

/-- `LD r,r'`, `LD r,d8`, `LD r,(HL)` (R200, R201, R202). Cost component: log 25. -/
def Obligations.LoadRegister : Prop :=
  ∀ (i : Instr) (s : State) (dst : Reg8),
    (∀ src, i.form = .ldRegReg dst src →
      encode i = [BitVec.ofNat 8 (0x40 + 8 * dst.code + src.code)] ∧ costs i false 4 ∧
      exec i s = .next ({ s with pc := s.pc + 1, elapsed := s.elapsedAfter i false }.setReg dst (s.getReg src))) ∧
    (∀ n, i.form = .ldRegImm dst n →
      encode i = [BitVec.ofNat 8 (0x06 + 8 * dst.code), n] ∧ costs i false 8 ∧
      exec i s = .next ({ s with pc := s.pc + 2, elapsed := s.elapsedAfter i false }.setReg dst n)) ∧
    (i.form = .ldRegMem dst →
      encode i = [BitVec.ofNat 8 (0x46 + 8 * dst.code)] ∧ costs i false 8 ∧
      exec i s = .next
        ({ s with pc := s.pc + 1, elapsed := s.elapsedAfter i false }.setReg dst (s.memRead s.hl)))

/-- `LD (HL),r`, `LD (HL),d8`: one store at HL (R203, R204). Cost component: log 25. -/
def Obligations.StoreAtHl : Prop :=
  ∀ (i : Instr) (s : State),
    (∀ src, i.form = .ldMemReg src →
      let t := { s.memorySide (s.memWrite s.hl (s.getReg src)) with
        pc := s.pc + 1, elapsed := s.elapsedAfter i false }
      encode i = [BitVec.ofNat 8 (0x70 + src.code)] ∧ costs i false 8 ∧
      exec i s = .next t ∧ s.StoredOnlyAt s.hl t) ∧
    (∀ n, i.form = .ldMemImm n →
      let t := { s.memorySide (s.memWrite s.hl n) with pc := s.pc + 2, elapsed := s.elapsedAfter i false }
      encode i = [0x36#8, n] ∧ costs i false 12 ∧ exec i s = .next t ∧ s.StoredOnlyAt s.hl t)

/-- The seven loads of A from memory: the address, then HL stepped by the (HL+) and (HL-) forms (R205, R206, R209,
R211, R213, R216, R218). Cost component: log 25. -/
def Obligations.LoadAccumulator : Prop :=
  ∀ (i : Instr) (s : State) (p : Place), i.form = .ldA p →
    let x : Word × List Byte × Nat × Word := match p with
      | .bc => (s.bc, [0x0A#8], 8, s.hl)
      | .de => (s.de, [0x1A#8], 8, s.hl)
      | .abs w => (w, [0xFA#8, lo w, hi w], 16, s.hl)
      | .high n => (0xFF00#16 + n.setWidth 16, [0xF0#8, n], 12, s.hl)
      | .highC => (0xFF00#16 + s.c.setWidth 16, [0xF2#8], 8, s.hl)
      | .hlInc => (s.hl, [0x2A#8], 8, s.hl + 1)
      | .hlDec => (s.hl, [0x3A#8], 8, s.hl - 1)
    encode i = x.2.1 ∧ costs i false x.2.2.1 ∧
    exec i s = .next { s with
      a := s.memRead x.1, h := hi x.2.2.2, l := lo x.2.2.2, pc := s.pc + BitVec.ofNat 16 x.2.1.length
      elapsed := s.elapsedAfter i false }

/-- The seven stores of A to memory, likewise (R207, R208, R210, R212, R214, R215, R217). Cost component: log 25. -/
def Obligations.StoreAccumulator : Prop :=
  ∀ (i : Instr) (s : State) (p : Place), i.form = .stA p →
    let x : Word × List Byte × Nat × Word := match p with
      | .bc => (s.bc, [0x02#8], 8, s.hl)
      | .de => (s.de, [0x12#8], 8, s.hl)
      | .abs w => (w, [0xEA#8, lo w, hi w], 16, s.hl)
      | .high n => (0xFF00#16 + n.setWidth 16, [0xE0#8, n], 12, s.hl)
      | .highC => (0xFF00#16 + s.c.setWidth 16, [0xE2#8], 8, s.hl)
      | .hlInc => (s.hl, [0x22#8], 8, s.hl + 1)
      | .hlDec => (s.hl, [0x32#8], 8, s.hl - 1)
    let t := { s.memorySide (s.memWrite x.1 s.a) with
      h := hi x.2.2.2, l := lo x.2.2.2, pc := s.pc + BitVec.ofNat 16 x.2.1.length
      elapsed := s.elapsedAfter i false }
    encode i = x.2.1 ∧ costs i false x.2.2.1 ∧ exec i s = .next t ∧ s.StoredOnlyAt x.1 t

/-! ## 16-bit loads and the stack -/

/-- `LD rr,d16` and `LD SP,HL` (R232, R234). Cost component: log 25. -/
def Obligations.LoadPair : Prop :=
  ∀ (i : Instr) (s : State),
    (∀ p w, i.form = .ldPairImm p w →
      encode i = [BitVec.ofNat 8 (0x01 + 16 * p.code), lo w, hi w] ∧ costs i false 12 ∧
      exec i s = .next ({ s with pc := s.pc + 3, elapsed := s.elapsedAfter i false }.setPair p w)) ∧
    (i.form = .ldSpHl →
      encode i = [0xF9#8] ∧ costs i false 8 ∧
      exec i s = .next { s with sp := s.hl, pc := s.pc + 1, elapsed := s.elapsedAfter i false })

/-- `LD (a16),SP`: two stores, the low byte at a16 first (R233). Cost component: log 25. -/
def Obligations.StoreStackPointer : Prop :=
  ∀ (i : Instr) (s : State) (w : Word), i.form = .ldAbsSp w →
    let u := s.memWrite w (lo s.sp)
    let t := { s.memorySide (u.memWrite (w + 1) (hi s.sp)) with
      pc := s.pc + 3, elapsed := s.elapsedAfter i false }
    encode i = [0x08#8, lo w, hi w] ∧ costs i false 20 ∧ exec i s = .next t ∧
    s.StoredOnlyAt w u ∧ u.StoredOnlyAt (w + 1) t

/-- `LD HL,SP+e8` and `ADD SP,e8`: the sum is signed, the carries are those of the unsigned low byte (R235, R294).
Cost component: log 25. -/
def Obligations.StackPointerPlusDisplacement : Prop :=
  ∀ (i : Instr) (s : State) (e : Byte),
    let sum : Word := BitVec.ofInt 16 ((s.sp.toNat : Int) + e.toInt)
    let x : Flags := ⟨false, false, decide (0x0F < s.sp.toNat % 0x10 + e.toNat % 0x10),
      decide (0xFF < s.sp.toNat % 0x100 + e.toNat)⟩
    (i.form = .ldHlSp e →
      encode i = [0xF8#8, e] ∧ costs i false 12 ∧
      exec i s = .next ({ s with
        h := hi sum, l := lo sum, pc := s.pc + 2, elapsed := s.elapsedAfter i false }.setFlags x)) ∧
    (i.form = .addSp e →
      encode i = [0xE8#8, e] ∧ costs i false 16 ∧
      exec i s = .next ({ s with sp := sum, pc := s.pc + 2, elapsed := s.elapsedAfter i false }.setFlags x))

/-- `PUSH rr`: the high byte at SP - 1, then the low byte at SP - 2, F's low nibble 0 where F's is (R230, R236). Cost
component: log 25. -/
def Obligations.PushStoresHighByteFirst : Prop :=
  ∀ (i : Instr) (s : State) (p : StackPair), i.form = .push p →
    let w : Word := match p with | .bc => s.bc | .de => s.de | .hl => s.hl | .af => s.af
    let u := s.memWrite (s.sp - 1) (hi w)
    let t := { s.memorySide (u.memWrite (s.sp - 2) (lo w)) with
      sp := s.sp - 2, pc := s.pc + 1, elapsed := s.elapsedAfter i false }
    encode i = [BitVec.ofNat 8 (0xC5 + 16 * p.code)] ∧ costs i false 16 ∧ exec i s = .next t ∧
    s.StoredOnlyAt (s.sp - 1) u ∧ u.StoredOnlyAt (s.sp - 2) t ∧
    (p = .af → s.f &&& 0x0F#8 = 0#8 → lo w &&& 0x0F#8 = 0#8)

/-- `POP rr`: the low byte at SP, the high byte at SP + 1; `POP AF` masks F (R231, R237). Cost component: log 25. -/
def Obligations.PopLoadsLowByteFirst : Prop :=
  ∀ (i : Instr) (s : State) (p : StackPair), i.form = .pop p →
    let l := s.memRead s.sp
    let h := s.memRead (s.sp + 1)
    let t := { s with sp := s.sp + 2, pc := s.pc + 1, elapsed := s.elapsedAfter i false }
    encode i = [BitVec.ofNat 8 (0xC1 + 16 * p.code)] ∧ costs i false 12 ∧
    exec i s = .next (match p with
      | .bc => { t with b := h, c := l }
      | .de => { t with d := h, e := l }
      | .hl => { t with h := h, l := l }
      | .af => { t with a := h, f := l &&& 0xF0#8 })

/-- A pop after a push returns the pushed word and restores SP, where the two bytes lie in RAM (R231). The
premises are that memory is in its canonical form and the parameters are legal. -/
def Obligations.PopReturnsWhatPushStored : Prop :=
  ∀ (s : State) (w : Word), s.mem.wf = true → s.cfg.wf = true →
    ramAddress (s.sp - 1) = true → ramAddress (s.sp - 2) = true →
    (s.push16 w).popValue = w ∧ (s.push16 w).dropWord.sp = s.sp

/-! ## 8-bit arithmetic and logic -/

/-- `ADD` and `ADC` in their three operand forms, with the closed forms of the flags (R246, R250 to R255). Cost
component: log 25. -/
def Obligations.AddToAccumulator : Prop :=
  ∀ (i : Instr) (s : State) (o : AluOp) (x : Source), o = .add ∨ o = .adc → i.form = .alu o x →
    let b : Byte := match x with | .reg r => s.getReg r | .mem => s.memRead s.hl | .imm n => n
    let cin : Nat := if o = .adc ∧ s.fc = true then 1 else 0
    let sum : Nat := s.a.toNat + b.toNat + cin
    let enc : List Byte × Nat := match x with
      | .reg r => ([BitVec.ofNat 8 (0x80 + 8 * o.code + r.code)], 4)
      | .mem => ([BitVec.ofNat 8 (0x86 + 8 * o.code)], 8)
      | .imm n => ([BitVec.ofNat 8 (0xC6 + 8 * o.code), n], 8)
    o.code = (if o = .add then 0 else 1) ∧ encode i = enc.1 ∧ costs i false enc.2 ∧
    exec i s = .next ({ s with
      a := BitVec.ofNat 8 sum, pc := s.pc + BitVec.ofNat 16 enc.1.length
      elapsed := s.elapsedAfter i false }.setFlags
        ⟨decide (sum % 0x100 = 0), false, decide (0xF < s.a.toNat % 0x10 + b.toNat % 0x10 + cin),
          decide (0xFF < sum)⟩)

/-- `SUB`, `SBC` and `CP` in their three operand forms; CP leaves A (R247, R256 to R261, R271 to R273). Cost
component: log 25. -/
def Obligations.SubtractFromAccumulator : Prop :=
  ∀ (i : Instr) (s : State) (o : AluOp) (x : Source), o = .sub ∨ o = .sbc ∨ o = .cp → i.form = .alu o x →
    let b : Byte := match x with | .reg r => s.getReg r | .mem => s.memRead s.hl | .imm n => n
    let cin : Nat := if o = .sbc ∧ s.fc = true then 1 else 0
    let res : Byte := BitVec.ofInt 8 ((s.a.toNat : Int) - b.toNat - cin)
    let enc : List Byte × Nat := match x with
      | .reg r => ([BitVec.ofNat 8 (0x80 + 8 * o.code + r.code)], 4)
      | .mem => ([BitVec.ofNat 8 (0x86 + 8 * o.code)], 8)
      | .imm n => ([BitVec.ofNat 8 (0xC6 + 8 * o.code), n], 8)
    o.code = (if o = .sub then 2 else if o = .sbc then 3 else 7) ∧ encode i = enc.1 ∧ costs i false enc.2 ∧
    exec i s = .next ({ s with
      a := if o = AluOp.cp then s.a else res, pc := s.pc + BitVec.ofNat 16 enc.1.length
      elapsed := s.elapsedAfter i false }.setFlags
        ⟨decide (res = 0#8), true, decide (s.a.toNat % 0x10 < b.toNat % 0x10 + cin),
          decide (s.a.toNat < b.toNat + cin)⟩)

/-- `AND`, `XOR` and `OR` in their three operand forms (R248, R262 to R270). Cost component: log 25. -/
def Obligations.LogicOnAccumulator : Prop :=
  ∀ (i : Instr) (s : State) (o : AluOp) (x : Source), o = .and ∨ o = .xor ∨ o = .or → i.form = .alu o x →
    let b : Byte := match x with | .reg r => s.getReg r | .mem => s.memRead s.hl | .imm n => n
    let res : Byte := if o = .and then s.a &&& b else if o = .xor then s.a ^^^ b else s.a ||| b
    let enc : List Byte × Nat := match x with
      | .reg r => ([BitVec.ofNat 8 (0x80 + 8 * o.code + r.code)], 4)
      | .mem => ([BitVec.ofNat 8 (0x86 + 8 * o.code)], 8)
      | .imm n => ([BitVec.ofNat 8 (0xC6 + 8 * o.code), n], 8)
    o.code = (if o = .and then 4 else if o = .xor then 5 else 6) ∧ encode i = enc.1 ∧ costs i false enc.2 ∧
    exec i s = .next ({ s with
      a := res, pc := s.pc + BitVec.ofNat 16 enc.1.length
      elapsed := s.elapsedAfter i false }.setFlags ⟨decide (res = 0#8), false, decide (o = AluOp.and), false⟩)

/-- `INC r` and `DEC r`: FC untouched (R249, R274, R276). Cost component: log 25. -/
def Obligations.IncrementDecrementRegister : Prop :=
  ∀ (i : Instr) (s : State) (r : Reg8),
    let v := s.getReg r
    let t := { s with pc := s.pc + 1, elapsed := s.elapsedAfter i false }
    (i.form = .incReg r →
      encode i = [BitVec.ofNat 8 (0x04 + 8 * r.code)] ∧ costs i false 4 ∧
      exec i s = .next ((t.setReg r (v + 1)).setFlags
        ⟨decide (v + 1 = 0#8), false, decide (v.toNat % 0x10 = 0xF), s.fc⟩)) ∧
    (i.form = .decReg r →
      encode i = [BitVec.ofNat 8 (0x05 + 8 * r.code)] ∧ costs i false 4 ∧
      exec i s = .next ((t.setReg r (v - 1)).setFlags
        ⟨decide (v - 1 = 0#8), true, decide (v.toNat % 0x10 = 0), s.fc⟩))

/-- `INC (HL)` and `DEC (HL)`: one read, then one store at HL (R249, R275, R277). Cost component: log 25. -/
def Obligations.IncrementDecrementMemory : Prop :=
  ∀ (i : Instr) (s : State),
    let v := s.memRead s.hl
    (i.form = .incMem →
      let t := { s.memorySide (s.memWrite s.hl (v + 1)) with
        pc := s.pc + 1, elapsed := s.elapsedAfter i false }.setFlags
          ⟨decide (v + 1 = 0#8), false, decide (v.toNat % 0x10 = 0xF), s.fc⟩
      encode i = [0x34#8] ∧ costs i false 12 ∧ exec i s = .next t ∧ s.StoredOnlyAt s.hl t) ∧
    (i.form = .decMem →
      let t := { s.memorySide (s.memWrite s.hl (v - 1)) with
        pc := s.pc + 1, elapsed := s.elapsedAfter i false }.setFlags
          ⟨decide (v - 1 = 0#8), true, decide (v.toNat % 0x10 = 0), s.fc⟩
      encode i = [0x35#8] ∧ costs i false 12 ∧ exec i s = .next t ∧ s.StoredOnlyAt s.hl t)

/-- `DAA` (R280). Cost component: log 25. -/
def Obligations.DecimalAdjust : Prop :=
  ∀ (i : Instr) (s : State), i.form = .daa →
    let v := s.a.toNat
    let high : Bool := s.fc || (!s.fn && decide (0x99 < v))
    let low : Bool := s.fh || (!s.fn && decide (0x09 < v % 0x10))
    let adj : Nat := (if high then 0x60 else 0) + (if low then 0x06 else 0)
    let res : Byte := if s.fn then BitVec.ofInt 8 ((v : Int) - adj) else BitVec.ofNat 8 (v + adj)
    encode i = [0x27#8] ∧ costs i false 4 ∧
    exec i s = .next ({ s with a := res, pc := s.pc + 1, elapsed := s.elapsedAfter i false }.setFlags
      ⟨decide (res = 0#8), s.fn, false, high⟩)

/-- `CPL`, `SCF`, `CCF` (R281, R282, R283). Cost component: log 25. -/
def Obligations.ComplementAndCarryFlag : Prop :=
  ∀ (i : Instr) (s : State),
    let t := { s with pc := s.pc + 1, elapsed := s.elapsedAfter i false }
    (i.form = .cpl → encode i = [0x2F#8] ∧ costs i false 4 ∧
      exec i s = .next ({ t with a := BitVec.ofNat 8 (255 - s.a.toNat) }.setFlags ⟨s.fz, true, true, s.fc⟩)) ∧
    (i.form = .scf → encode i = [0x37#8] ∧ costs i false 4 ∧
      exec i s = .next (t.setFlags ⟨s.fz, false, false, true⟩)) ∧
    (i.form = .ccf → encode i = [0x3F#8] ∧ costs i false 4 ∧
      exec i s = .next (t.setFlags ⟨s.fz, false, false, !s.fc⟩))

/-! ## 16-bit arithmetic -/

/-- `INC rr` and `DEC rr`: no flag (R290, R291). Cost component: log 25. -/
def Obligations.IncrementDecrementPair : Prop :=
  ∀ (i : Instr) (s : State) (p : Pair),
    let v : Word := match p with | .bc => s.bc | .de => s.de | .hl => s.hl | .sp => s.sp
    let t := { s with pc := s.pc + 1, elapsed := s.elapsedAfter i false }
    (i.form = .incPair p → encode i = [BitVec.ofNat 8 (0x03 + 16 * p.code)] ∧ costs i false 8 ∧
      exec i s = .next (t.setPair p (v + 1))) ∧
    (i.form = .decPair p → encode i = [BitVec.ofNat 8 (0x0B + 16 * p.code)] ∧ costs i false 8 ∧
      exec i s = .next (t.setPair p (v - 1)))

/-- `ADD HL,rr`: FZ untouched, the carries out of bits 11 and 15 (R293). Cost component: log 25. -/
def Obligations.AddToHl : Prop :=
  ∀ (i : Instr) (s : State) (p : Pair), i.form = .addHl p →
    let b : Word := match p with | .bc => s.bc | .de => s.de | .hl => s.hl | .sp => s.sp
    let sum : Nat := s.hl.toNat + b.toNat
    encode i = [BitVec.ofNat 8 (0x09 + 16 * p.code)] ∧ costs i false 8 ∧
    exec i s = .next ({ s with
      h := BitVec.ofNat 8 (sum / 0x100), l := BitVec.ofNat 8 sum, pc := s.pc + 1
      elapsed := s.elapsedAfter i false }.setFlags
        ⟨s.fz, false, decide (0xFFF < s.hl.toNat % 0x1000 + b.toNat % 0x1000), decide (0xFFFF < sum)⟩)

/-! ## Rotates, shifts and bits -/

/-- `RLCA`, `RRCA`, `RLA`, `RRA`: FZ cleared whatever the result (R300 to R304). Cost component: log 25. -/
def Obligations.AccumulatorRotates : Prop :=
  ∀ (i : Instr) (s : State) (o : AccRot), i.form = .accRot o →
    let v := s.a.toNat
    let cin : Nat := if s.fc then 1 else 0
    let x : Byte × Nat × Bool := match o with
      | .rlca => (0x07#8, 2 * v % 0x100 + v / 0x80, decide (0x80 ≤ v))
      | .rrca => (0x0F#8, v / 2 + 0x80 * (v % 2), decide (v % 2 = 1))
      | .rla => (0x17#8, 2 * v % 0x100 + cin, decide (0x80 ≤ v))
      | .rra => (0x1F#8, v / 2 + 0x80 * cin, decide (v % 2 = 1))
    encode i = [x.1] ∧ costs i false 4 ∧
    exec i s = .next ({ s with
      a := BitVec.ofNat 8 x.2.1, pc := s.pc + 1, elapsed := s.elapsedAfter i false }.setFlags
        ⟨false, false, false, x.2.2⟩)

/-- The eight prefixed rotates and shifts on a register and on (HL): FZ from the result, the (HL) form one read then
one store (R304, R310 to R317). Cost component: log 25. -/
def Obligations.PrefixedRotates : Prop :=
  ∀ (i : Instr) (s : State) (o : RotOp) (z : Target), i.form = .rot o z →
    let v : Nat := match z with | .reg r => (s.getReg r).toNat | .mem => (s.memRead s.hl).toNat
    let cin : Nat := if s.fc then 1 else 0
    let x : Nat × Bool := match o with
      | .rlc => (2 * v % 0x100 + v / 0x80, decide (0x80 ≤ v))
      | .rrc => (v / 2 + 0x80 * (v % 2), decide (v % 2 = 1))
      | .rl => (2 * v % 0x100 + cin, decide (0x80 ≤ v))
      | .rr => (v / 2 + 0x80 * cin, decide (v % 2 = 1))
      | .sla => (2 * v % 0x100, decide (0x80 ≤ v))
      | .sra => (v / 2 + 0x80 * (v / 0x80), decide (v % 2 = 1))
      | .swap => (0x10 * (v % 0x10) + v / 0x10, false)
      | .srl => (v / 2, decide (v % 2 = 1))
    let res : Byte := BitVec.ofNat 8 x.1
    let fl : Flags := ⟨decide (x.1 = 0), false, false, x.2⟩
    o.code = (match o with
      | .rlc => 0 | .rrc => 1 | .rl => 2 | .rr => 3 | .sla => 4 | .sra => 5 | .swap => 6 | .srl => 7) ∧
    encode i = [0xCB#8, BitVec.ofNat 8 (8 * o.code + z.code)] ∧
    (∀ r, z = .reg r → costs i false 8 ∧
      exec i s = .next (({ s with pc := s.pc + 2, elapsed := s.elapsedAfter i false }.setReg r res).setFlags fl)) ∧
    (z = .mem → costs i false 16 ∧
      let t := { s.memorySide (s.memWrite s.hl res) with
        pc := s.pc + 2, elapsed := s.elapsedAfter i false }.setFlags fl
      exec i s = .next t ∧ s.StoredOnlyAt s.hl t)

/-- `BIT b,r` and `BIT b,(HL)`: no write, FC untouched (R320, R321). Cost component: log 25. -/
def Obligations.TestBit : Prop :=
  ∀ (i : Instr) (s : State) (k : BitIndex) (z : Target), i.form = .bit k z →
    let v : Byte := match z with | .reg r => s.getReg r | .mem => s.memRead s.hl
    encode i = [0xCB#8, BitVec.ofNat 8 (0x40 + 8 * k + z.code)] ∧ costs i false (if z = .mem then 12 else 8) ∧
    exec i s = .next ({ s with pc := s.pc + 2, elapsed := s.elapsedAfter i false }.setFlags
      ⟨!v.getLsbD k, false, true, s.fc⟩)

/-- `RES` and `SET` on a register and on (HL): one bit, no flag, and the store made whatever the bit was (R322 to
R325). Cost component: log 25. -/
def Obligations.ClearAndSetBit : Prop :=
  ∀ (i : Instr) (s : State) (k : BitIndex) (z : Target) (one : Bool),
    i.form = (if one then .set k z else .res k z) →
    let v : Byte := match z with | .reg r => s.getReg r | .mem => s.memRead s.hl
    ∃ res : Byte, (∀ j, j < 8 → res.getLsbD j = if j = k then one else v.getLsbD j) ∧
      encode i = [0xCB#8, BitVec.ofNat 8 ((if one then 0xC0 else 0x80) + 8 * k + z.code)] ∧
      (∀ r, z = .reg r → costs i false 8 ∧
        exec i s = .next ({ s with pc := s.pc + 2, elapsed := s.elapsedAfter i false }.setReg r res)) ∧
      (z = .mem → costs i false 16 ∧
        let t := { s.memorySide (s.memWrite s.hl res) with pc := s.pc + 2, elapsed := s.elapsedAfter i false }
        exec i s = .next t ∧ s.StoredOnlyAt s.hl t)

/-! ## Control transfer -/

/-- `JP a16`, `JP HL`, `JR e8` (R330, R332, R333, R343). The costs of an override whose two values differ are the
not-taken ones, the choice of log 25. -/
def Obligations.UnconditionalJumps : Prop :=
  ∀ (i : Instr) (s : State),
    (∀ w, i.form = .jp w → encode i = [0xC3#8, lo w, hi w] ∧ costs i false 16 ∧
      exec i s = .next { s with pc := w, elapsed := s.elapsedAfter i false }) ∧
    (i.form = .jpHl → encode i = [0xE9#8] ∧ costs i false 4 ∧
      exec i s = .next { s with pc := s.hl, elapsed := s.elapsedAfter i false }) ∧
    (∀ e, i.form = .jr e → encode i = [0x18#8, e] ∧ costs i false 12 ∧
      exec i s = .next { s with
        pc := BitVec.ofInt 16 ((s.pc.toNat : Int) + 2 + e.toInt), elapsed := s.elapsedAfter i false })

/-- `JP cc,a16` and `JR cc,e8`, taken and not taken (R159, R331, R334). -/
def Obligations.ConditionalJumps : Prop :=
  ∀ (i : Instr) (s : State) (cc : Cond),
    let taken : Bool := match cc with | .nz => !s.fz | .z => s.fz | .nc => !s.fc | .c => s.fc
    cc.code = (match cc with | .nz => 0 | .z => 1 | .nc => 2 | .c => 3) ∧ s.cond cc = taken ∧
    (∀ w, i.form = .jpCond cc w →
      encode i = [BitVec.ofNat 8 (0xC2 + 8 * cc.code), lo w, hi w] ∧ costs i true 16 ∧ costs i false 12 ∧
      exec i s = .next { s with pc := if taken then w else s.pc + 3, elapsed := s.elapsedAfter i taken }) ∧
    (∀ e, i.form = .jrCond cc e →
      encode i = [BitVec.ofNat 8 (0x20 + 8 * cc.code), e] ∧ costs i true 12 ∧ costs i false 8 ∧
      exec i s = .next { s with
        pc := if taken then BitVec.ofInt 16 ((s.pc.toNat : Int) + 2 + e.toInt) else s.pc + 2
        elapsed := s.elapsedAfter i taken })

/-- `CALL a16`, `RST n` and `CALL cc,a16`: the return address pushed, high byte first, when the transfer is taken, and
no stack access when it is not (R335, R336, R342, R343). The costs of CALL a16 and RST under an override whose two
values differ are the not-taken ones, the choice of log 25. -/
def Obligations.CallsPushTheReturnAddress : Prop :=
  ∀ (i : Instr) (s : State) (ret target : Word),
    let u := s.memWrite (s.sp - 1) (hi ret)
    let t := fun n : Nat => { s.memorySide (u.memWrite (s.sp - 2) (lo ret)) with
      sp := s.sp - 2, pc := target, elapsed := n }
    (i.form = .call target → ret = s.pc + 3 →
      encode i = [0xCD#8, lo target, hi target] ∧ costs i false 24 ∧
      exec i s = .next (t (s.elapsedAfter i false)) ∧
      s.StoredOnlyAt (s.sp - 1) u ∧ u.StoredOnlyAt (s.sp - 2) (t (s.elapsedAfter i false))) ∧
    (∀ k, i.form = .rst k → ret = s.pc + 1 → target = BitVec.ofNat 16 (8 * k) →
      encode i = [BitVec.ofNat 8 (0xC7 + 8 * k)] ∧ costs i false 16 ∧
      exec i s = .next (t (s.elapsedAfter i false)) ∧
      s.StoredOnlyAt (s.sp - 1) u ∧ u.StoredOnlyAt (s.sp - 2) (t (s.elapsedAfter i false))) ∧
    (∀ cc, i.form = .callCond cc target → ret = s.pc + 3 →
      encode i = [BitVec.ofNat 8 (0xC4 + 8 * cc.code), lo target, hi target] ∧ costs i true 24 ∧
      costs i false 12 ∧
      (s.cond cc = true → exec i s = .next (t (s.elapsedAfter i true)) ∧
        s.StoredOnlyAt (s.sp - 1) u ∧ u.StoredOnlyAt (s.sp - 2) (t (s.elapsedAfter i true))) ∧
      (s.cond cc = false → exec i s = .next { s with pc := s.pc + 3, elapsed := s.elapsedAfter i false }))

/-- `RET`, `RETI` and `RET cc`: PC popped low byte first; RETI sets IME at once (R337, R338, R341). The costs of RET
and RETI under an override whose two values differ are the not-taken ones, the choice of log 25. -/
def Obligations.ReturnsPopThePc : Prop :=
  ∀ (i : Instr) (s : State),
    let back : Word := mk16 (s.memRead (s.sp + 1)) (s.memRead s.sp)
    (i.form = .ret → encode i = [0xC9#8] ∧ costs i false 16 ∧
      exec i s = .next { s with sp := s.sp + 2, pc := back, elapsed := s.elapsedAfter i false }) ∧
    (i.form = .reti → encode i = [0xD9#8] ∧ costs i false 16 ∧
      exec i s = .next { s with sp := s.sp + 2, pc := back, ime := true, elapsed := s.elapsedAfter i false }) ∧
    (∀ cc, i.form = .retCond cc →
      encode i = [BitVec.ofNat 8 (0xC0 + 8 * cc.code)] ∧ costs i true 20 ∧ costs i false 8 ∧
      exec i s = .next (if s.cond cc then
          { s with sp := s.sp + 2, pc := back, elapsed := s.elapsedAfter i true }
        else { s with pc := s.pc + 1, elapsed := s.elapsedAfter i false }))

/-! ## System instructions -/

/-- `NOP`; `DI` and `EI`, which take effect at once; `HALT`: HALTED whatever IME, IE and IF hold, with all of IF in
the snapshot (R360, R361, R363, R364). Cost component: log 25. -/
def Obligations.NopHaltAndInterruptEnable : Prop :=
  ∀ (i : Instr) (s : State),
    let t := { s with pc := s.pc + 1, elapsed := s.elapsedAfter i false }
    (i.form = .nop → encode i = [0x00#8] ∧ costs i false 4 ∧ exec i s = .next t) ∧
    (i.form = .di → encode i = [0xF3#8] ∧ costs i false 4 ∧ exec i s = .next { t with ime := false }) ∧
    (i.form = .ei → encode i = [0xFB#8] ∧ costs i false 4 ∧ exec i s = .next { t with ime := true }) ∧
    (i.form = .halt → encode i = [0x76#8] ∧ costs i false 4 ∧
      exec i s = .next { t with run := .halted, hsnap := s.mem.read 0xFF0F })

/-- `STOP`: a speed switch is requested where the port is armed, else STOPPED; DIV and the accumulators are left alone
(R362). Cost component: log 25. -/
def Obligations.StopOrSpeedSwitch : Prop :=
  ∀ (i : Instr) (s : State), i.form = .stop →
    let t := { s with pc := s.pc + 2, elapsed := s.elapsedAfter i false }
    let armed : Bool := s.cfg.cgbMode && (s.mem.read 0xFF4D).getLsbD 0
    (encode i).length = 2 ∧ (encode i).head? = some 0x10#8 ∧ costs i false 4 ∧
    exec i s = .next (if armed then { t with speedPend := true } else { t with run := .stopped })

/-- The eleven codes without a handler record the fault and do nothing else: no cost, PC not advanced (R366,
R430). -/
def Obligations.IllegalOpcodeRecordsTheFault : Prop :=
  ∀ (i : Instr) (s : State) (b : Byte), i.form = .illegal b →
    encode i = [b] ∧ exec i s = .next { s with fault := some ⟨s.pc, b⟩ }

/-- The prefix row dispatches on the byte behind it (R152, R365; log 9). -/
def Obligations.PrefixDispatchesOnTheSecondByte : Prop :=
  ∀ s : State,
    let i := secondPageInstr (s.memRead (s.pc + 1))
    i.wellFormed = true ∧ exec .prefix_cb s = exec i s ∧ ∃ t, exec .prefix_cb s = .next t

/-! ## Laws over all instructions -/

/-- Every instruction answers a next state in every state: no instruction stops the machine (R432; log 8). -/
def Obligations.EveryInstructionCompletes : Prop :=
  ∀ (i : Instr) (s : State), ∃ t, exec i s = .next t

/-- Every instruction that is not a taken control transfer sets PC to the address after its last byte (R36). -/
def Obligations.PcAdvancesByTheLength : Prop :=
  ∀ (i : Instr) (s t : State), i.wellFormed = true → exec i s = .next t →
    (match i.form with
      | .jp _ | .jpHl | .jr _ | .call _ | .rst _ | .ret | .reti => False
      | .jpCond cc _ | .jrCond cc _ | .callCond cc _ | .retCond cc => s.cond cc = false
      | _ => True) →
    t.pc = s.pc + BitVec.ofNat 16 (encode i).length

/-- Only EI, RETI and DI write IME, only HALT and STOP write RUN, only HALT writes HSNAP, only STOP writes the
pending latch, and no instruction writes the accumulators, the speed latch or the parameters (R38, R41, R42, R47 to
R50). -/
def Obligations.WhoWritesTheEngineState : Prop :=
  ∀ (i : Instr) (s t : State), exec i s = .next t →
    (t.ime = s.ime ∨ ((i = .ei ∨ i = .reti) ∧ t.ime = true) ∨ (i = .di ∧ t.ime = false)) ∧
    (t.run = s.run ∨ (i = .halt ∧ t.run = .halted) ∨ (i = .stop ∧ t.run = .stopped)) ∧
    (t.hsnap = s.hsnap ∨ (i = .halt ∧ t.hsnap = s.ifReg)) ∧
    (t.speedPend = s.speedPend ∨ (i = .stop ∧ t.speedPend = true)) ∧
    (t.fault = s.fault ∨ i.isIllegal = true) ∧
    t.divAcc = s.divAcc ∧ t.timAcc = s.timAcc ∧ t.speed = s.speed ∧ t.cfg = s.cfg

/-! ## The memory router -/

/-- The lines of `MemRead`, for legal parameters, with the bank selects (R53, R54, R100). The questions to
collaborators and the gap are free values where nothing is known (log 4, log 7). -/
def Obligations.ReadsFollowTheMap : Prop :=
  ∀ (s : State) (a : Word), s.cfg.wf = true →
    let n := a.toNat
    let owned := inRanges s.cfg.audioOwned n || inRanges s.cfg.videoOwned n
    (∀ v, s.bootOn = true → bootRom s.cfg n = some v → s.memRead a = v) ∧
    ((s.bootOn = false ∨ bootRom s.cfg n = none) → n < 0x8000 → s.memRead a = s.answer a (.rom a)) ∧
    (0x8000 ≤ n → n < 0xA000 → s.memRead a = s.mem.read (s.vbank * 0x10000 + n)) ∧
    (0xA000 ≤ n → n < 0xC000 → s.memRead a = s.answer a (.xram a)) ∧
    (0xC000 ≤ n → n < 0xD000 → s.memRead a = s.mem.read n) ∧
    (0xD000 ≤ n → n < 0xE000 → s.memRead a = s.mem.read (s.wbank * 0x10000 + n)) ∧
    (s.vbank = if s.cfg.cgbMode then (s.mem.read 0xFF4F).toNat % 2 else 0) ∧
    (s.wbank = if s.cfg.cgbMode = true ∧ (s.mem.read 0xFF70).toNat % 8 ≠ 0 then (s.mem.read 0xFF70).toNat % 8
      else 1) ∧
    (0xE000 ≤ n → n < 0xFE00 → s.memRead a = s.memRead (a - 0x2000#16)) ∧
    (0xFE00 ≤ n → n < 0xFEA0 → s.memRead a = s.mem.read n) ∧
    (0xFEA0 ≤ n → n < 0xFF00 → s.memRead a = s.answer a (.gap a)) ∧
    (n = 0xFF00 → s.memRead a = s.answer a (.input (s.mem.read 0xFF00))) ∧
    (inRanges s.cfg.audioOwned n = true → s.memRead a = s.answer a (.audio a)) ∧
    (inRanges s.cfg.videoOwned n = true → s.memRead a = s.answer a (.video a)) ∧
    (0xFF00 < n → n < 0xFFFF → owned = false → s.memRead a = s.mem.read n) ∧
    (n = 0xFFFF → s.memRead a = s.ie)

/-- The lines of `MemWrite`, for legal parameters, and what a call outward is: put on the record, with what was known
of the called collaborator's answers forgotten and nothing else changed (R101, R95, R96, R98; log 5). The DMA copy is
named and stated elsewhere; an HDMA request is a call that writes free bytes of video RAM (R99; log 6). -/
def Obligations.WritesFollowTheMap : Prop :=
  ∀ (s : State) (a : Word) (v : Byte), s.cfg.wf = true →
    let n := a.toNat
    let owned := inRanges s.cfg.audioOwned n || inRanges s.cfg.videoOwned n
    let put := fun k => { s with mem := s.mem.write k v }
    (n < 0x8000 → s.memWrite a v = s.callOut (.romWrite a v)) ∧
    (0x8000 ≤ n → n < 0xA000 → s.memWrite a v = put (s.vbank * 0x10000 + n)) ∧
    (0xA000 ≤ n → n < 0xC000 → s.memWrite a v = s.callOut (.xramWrite a v)) ∧
    (0xC000 ≤ n → n < 0xD000 → s.memWrite a v = put n) ∧
    (0xD000 ≤ n → n < 0xE000 → s.memWrite a v = put (s.wbank * 0x10000 + n)) ∧
    (0xE000 ≤ n → n < 0xFE00 → s.memWrite a v = s.memWrite (a - 0x2000#16) v) ∧
    (0xFE00 ≤ n → n < 0xFEA0 → s.memWrite a v = put n) ∧
    (0xFEA0 ≤ n → n < 0xFF00 → s.memWrite a v = s) ∧
    (n = 0xFF00 → s.memWrite a v = { s with
      mem := s.mem.write 0xFF00 (v &&& 0x30#8), known := s.known.filter fun x => x.1 != 0xFF00 }) ∧
    (n = 0xFF04 → s.memWrite a v = { s with mem := s.mem.write 0xFF04 0x00#8 }) ∧
    (n = 0xFF46 → s.memWrite a v = (put 0xFF46).dmaCopy v) ∧
    (n = 0xFF50 → s.memWrite a v = { put 0xFF50 with bootOn := false }) ∧
    (n = 0xFF55 → s.cfg.cgbMode = true → s.memWrite a v = (put 0xFF55).requestHdma v) ∧
    (inRanges s.cfg.audioOwned n = true → s.memWrite a v = s.callOut (.audioWrite a v)) ∧
    (inRanges s.cfg.videoOwned n = true → s.memWrite a v = s.callOut (.videoWrite a v)) ∧
    (0xFF00 < n → n < 0xFFFF → owned = false → n ≠ 0xFF04 → n ≠ 0xFF46 → n ≠ 0xFF50 →
      (n = 0xFF55 → s.cfg.cgbMode = false) → s.memWrite a v = put n) ∧
    (n = 0xFFFF → s.memWrite a v = { s with ie := v }) ∧
    (∀ c : Call,
      s.callOut c = { s with calls := c :: s.calls, known := (s.callOut c).known } ∧
      ∀ m, let lapses : Bool := match c with
          | .romWrite _ _ | .xramWrite _ _ => decide (m < 0x8000) || (decide (0xA000 ≤ m) && decide (m < 0xC000))
          | .audioWrite _ _ => inRanges s.cfg.audioOwned m
          | .videoWrite _ _ => inRanges s.cfg.videoOwned m
          | .hdma _ => false
        cellsFind (s.callOut c).known m = if lapses then none else cellsFind s.known m) ∧
    s.requestHdma v = { s with mem := (s.requestHdma v).mem, calls := .hdma v :: s.calls } ∧
    (∀ k, ¬(0x8000 ≤ k % 0x10000 ∧ k % 0x10000 < 0xA000 ∧ k / 0x10000 < 2) →
      (s.requestHdma v).mem.read k = s.mem.read k)

/-- A byte written to storage is what the next read of its address returns (R125, R128). The premises are that
memory is in its canonical form and the parameters are legal. -/
def Obligations.StoreThenLoad : Prop :=
  ∀ (s : State) (a : Word) (v : Byte), s.mem.wf = true → s.cfg.wf = true → s.readsBack a = true →
    (s.memWrite a v).memRead a = v

/-- A store at an address changes nothing but what the address selects: the frame of every `MemWrite` (R101,
R125). -/
def Obligations.StoreFrame : Prop :=
  ∀ (s : State) (a : Word) (v : Byte),
    s.StoredOnlyAt a (s.memWrite a v) ∧ s.memWrite a v = s.memorySide (s.memWrite a v)

/-- A write of the DMA port copies the 160 bytes of page v, as the router reads them at the write, into the sprite
table, and nothing else moves (R114). -/
def Obligations.DmaCopiesThePage : Prop :=
  ∀ (s : State) (v : Byte), s.mem.wf = true →
    let t := s.memWrite 0xFF46#16 v
    let u := { s with mem := s.mem.write 0xFF46 v }
    (∀ i, i < 160 → t.mem.read (0xFE00 + i) = u.memRead (BitVec.ofNat 16 (0x100 * v.toNat + i))) ∧
    t.mem.read 0xFF46 = v ∧
    (∀ k, k ≠ 0xFF46 → (k < 0xFE00 ∨ 0xFEA0 ≤ k) → t.mem.read k = s.mem.read k) ∧
    t = { s with mem := t.mem }

/-! ## The stepping engine -/

/-- A live step with no service to make runs the instruction decoded at PC, 4 cycles in after a wake; the cycles go
to the timer and are returned (R400, R402, R404, R407). The bytes are those the collaborators answer in this step
(log 4). -/
def Obligations.StepRunsTheDecodedInstruction : Prop :=
  ∀ (s : State) (i : Instr) (rest : List Byte) (t : State),
    s.fault = none → s.run = .running ∨ (s.run = .halted ∧ s.ifReg ≠ s.hsnap) →
    ((s.ime = false ∧ s.hsnap = 0#8) ∨ s.pending = none) →
    let u := { s with
      run := .running, elapsed := if s.run = RunState.halted then 4 else 0, returned := none, tick := s.tick + 1 }
    decode [u.memRead s.pc, u.memRead (s.pc + 1), u.memRead (s.pc + 2)] = .ok (i, rest) →
    exec i u = .next t → step s = .next t.stepEnd

/-- A live step with a service to make serves the lowest pending source first, 20 cycles in, and then runs the
first instruction of its handler (R400, R403, R404, R407). -/
def Obligations.StepServesThenRunsTheHandler : Prop :=
  ∀ (s : State) (k : Fin 5) (i : Instr) (rest : List Byte) (t : State),
    s.fault = none → s.run ≠ .stopped → s.pending = some k →
    (s.ime = true ∨ (s.hsnap ≠ 0#8 ∧ s.cfg.imeBypass = .serve)) →
    let woken : Bool := decide (s.run = RunState.halted) && s.ifReg != s.hsnap
    let u := { s with
      run := if woken then .running else s.run, elapsed := if woken then 4 else 0, returned := none
      tick := s.tick + 1 }
    let v := { u.serve k with elapsed := u.elapsed + 20 }
    decode [v.memRead v.pc, v.memRead (v.pc + 1), v.memRead (v.pc + 2)] = .ok (i, rest) →
    exec i v = .next t → step s = .next t.stepEnd

/-- `serve(k)`: IME cleared, a halt ended, PC pushed high byte first, the request bit cleared after the push, PC at
the vector, and nothing else (R411, R413). -/
def Obligations.ServiceEntersTheHandler : Prop :=
  ∀ (s : State) (k : Fin 5),
    let u := { s with ime := false, run := if s.run = RunState.halted then .running else s.run }
    let w := u.memWrite (s.sp - 1) (hi s.pc)
    let m := w.memWrite (s.sp - 2) (lo s.pc)
    s.serve k = { u.memorySide m with
      mem := m.mem.write 0xFF0F (m.mem.read 0xFF0F &&& ~~~(1#8 <<< (k : Nat)))
      sp := s.sp - 2, pc := BitVec.ofNat 16 (0x40 + 8 * k) } ∧
    u.StoredOnlyAt (s.sp - 1) w ∧ w.StoredOnlyAt (s.sp - 2) m

/-- `pending()`: the least source set in both masks, none exactly when no bit of 0 to 4 is common (R410). -/
def Obligations.PendingIsTheLowestSource : Prop :=
  ∀ s : State,
    (s.pending = none ↔ s.ie &&& s.mem.read 0xFF0F &&& 0x1F#8 = 0#8) ∧
    (∀ k, s.pending = some k ↔
      ((s.ie &&& s.mem.read 0xFF0F).getLsbD k = true ∧
        ∀ j : Fin 5, j < k → (s.ie &&& s.mem.read 0xFF0F).getLsbD j = false))

/-- A step of an aborted session or a STOPPED block changes nothing and returns 0 (R401, R431). -/
def Obligations.IdleStepsDoNothing : Prop :=
  ∀ s : State, s.fault ≠ none ∨ s.run = .stopped → step s = .next { s with elapsed := 0, returned := some 0 }

/-- A halted step that neither wakes nor serves is one 4-cycle tick for the timer (R361, R402, R403). -/
def Obligations.HaltedTick : Prop :=
  ∀ s : State, s.fault = none → s.run = .halted → s.ifReg = s.hsnap →
    ((s.ime = false ∧ s.hsnap = 0#8) ∨ s.pending = none) →
    step s = .next { { s with elapsed := 4, returned := none, tick := s.tick + 1 }.timerAdvance 4 with
      returned := some 4 }

/-- An illegal opcode ends the step at once: the fault carries the address and the byte, the timer is not advanced
and no value is returned; the next step is the no-op (R366, R430, R431). -/
def Obligations.IllegalOpcodeAbortsTheSession : Prop :=
  ∀ s : State, s.fault = none → s.run = .running → ((s.ime = false ∧ s.hsnap = 0#8) ∨ s.pending = none) →
    let u := { s with elapsed := 0, returned := none, tick := s.tick + 1 }
    let b := u.memRead s.pc
    b ∈ [0xD3#8, 0xDB#8, 0xDD#8, 0xE3#8, 0xE4#8, 0xEB#8, 0xEC#8, 0xED#8, 0xF4#8, 0xFC#8, 0xFD#8] →
    step s = .next { u with fault := some ⟨s.pc, b⟩ } ∧
    step { u with fault := some ⟨s.pc, b⟩ } =
      .next { u with fault := some ⟨s.pc, b⟩, returned := some 0 }

/-- The one step without a next state is the IME bypass event under the policy `refuse`; under `serve`, and in
every other state, a step answers a next state (R406; log 14). -/
def Obligations.StepStopsOnlyOnTheBypass : Prop :=
  ∀ s : State,
    let bypass : Prop := s.fault = none ∧ s.run ≠ .stopped ∧ s.ime = false ∧ s.hsnap ≠ 0#8 ∧
      s.pending ≠ none ∧ s.cfg.imeBypass = .refuse
    (bypass → step s = .refused .imeBypass) ∧ (¬ bypass → ∃ t, step s = .next t)

/-! ## The timer -/

/-- The divider, in every state: DIV counts the units of DIVACC over 256, doubled at the speed in force after a
pending switch, the stall of the switch among them, the remainder kept (R450, R451, R452). -/
def Obligations.DividerLaw : Prop :=
  ∀ (s : State) (n : Nat), s.mem.wf = true →
    let fast : Bool := s.speed != s.speedPend
    let units := s.divAcc + (if s.speedPend then s.cfg.speedSwitchStall else 0) + (if fast then 2 * n else n)
    let t := s.timerAdvance n
    t.io 0x04 = BitVec.ofNat 8 ((s.io 0x04).toNat + units / 256) ∧ t.divAcc = units % 256

/-- The counter: one event per period of TIMACC while enabled, the remainder kept; an event at 0xFF reloads TIMA
and requests the Timer interrupt; disabled, no event and TIMACC reduced (R453, R454). -/
def Obligations.CounterLaw : Prop :=
  ∀ (s : State) (n : Nat), s.mem.wf = true →
    let tac := s.io 0x07
    let period : Nat := match tac.toNat % 4 with | 0 => 1024 | 1 => 16 | 2 => 64 | _ => 256
    let events := if tac.getLsbD 2 then (s.timAcc + n) / period else 0
    let x := Nat.repeat (tickCounter (s.io 0x06)) events (s.io 0x05, false)
    let t := s.timerAdvance n
    t.timAcc = (s.timAcc + n) % period ∧ t.io 0x05 = x.1 ∧
    t.io 0x0F = (if x.2 then s.io 0x0F ||| 0x04#8 else s.io 0x0F)

/-- The frame of `TimerAdvance`, and the speed switch it makes when one is pending: the stall is added before the
toggle, the latch cleared, the port rewritten (R450, R455). -/
def Obligations.SpeedSwitchAndTimerFrame : Prop :=
  ∀ (s : State) (n : Nat), s.mem.wf = true →
    let t := s.timerAdvance n
    t = { s with
      mem := t.mem, divAcc := t.divAcc, timAcc := t.timAcc, speed := t.speed, speedPend := t.speedPend } ∧
    (∀ k, k ≠ 0xFF04 → k ≠ 0xFF05 → k ≠ 0xFF0F → k ≠ 0xFF4D → t.mem.read k = s.mem.read k) ∧
    t.speedPend = false ∧
    (s.speedPend = false → t.speed = s.speed ∧ t.io 0x4D = s.io 0x4D) ∧
    (s.speedPend = true → t.speed = !s.speed ∧ t.io 0x4D = (if s.speed then 0x00#8 else 0x80#8) ∧
      t.divAcc = (s.divAcc + s.cfg.speedSwitchStall + (if s.speed then n else 2 * n)) % 256 ∧
      t.timAcc = ({ s with speedPend := false }.timerAdvance n).timAcc)

/-! ## Reset and invariants -/

/-- The values R60 gives for reset, for every choice of the parameters. The values it leaves open are the model's
(log 1, log 2) and are not claimed here. -/
def Obligations.ResetValues : Prop :=
  ∀ (c : Config) (s₀ : State), let s := State.resetWith c
    s.run = .running ∧ s.pc = 0x0000#16 ∧ s.f &&& 0x0F#8 = 0#8 ∧ s.ime = false ∧ s.ie = 0x00#8 ∧
    s.hsnap = 0x00#8 ∧ s.fault = none ∧ s.divAcc = 0 ∧ s.timAcc = 0 ∧ s.speed = false ∧ s.speedPend = false ∧
    (s.bootOn = true ↔ ∃ n, inRanges c.bootRanges n = true) ∧ (∀ p, p < 128 → s.io p = 0x00#8) ∧
    State.reset = State.resetWith (Config.defaults false) ∧
    s₀.hostReset = { State.resetWith s₀.cfg with
      known := s₀.known.filter fun x => x.1 != 0xFF00, calls := s₀.calls, tick := s₀.tick }

/-- The invariant holds at reset, for every choice of the parameters (R8, R60). -/
def Obligations.InvariantAtReset : Prop := ∀ c : Config, (State.resetWith c).Inv

/-- Every step and every permitted action of the environment keep the invariant: canonical memory of existing
cells, F[3:0] = 0, the bounds of the accumulators, no switch left pending, no double speed without CGB_MODE, only the
select bits in the joypad port (R33, R47 to R50, R55, R57, R444). -/
def Obligations.EveryStepKeepsTheInvariant : Prop :=
  (∀ s t : State, s.Inv → step s = .next t → t.Inv) ∧
  (∀ (s : State) (e : EnvAction), s.Inv → e.permitted s → (s.act e).Inv)

/-- Once off, the boot overlay stays off, and no step changes the parameters (R52; log 3). Between steps each action
of the environment changes what R444 names and nothing else: a request sets exactly its bit of IF (R412), reset and
restore keep what is outside but for the input device's answer (R445, R480; log 21), and video RAM is written for an
HDMA request only (log 6). -/
def Obligations.OverlayAndEnvironmentActions : Prop :=
  (∀ s t : State, step s = .next t → (s.bootOn = false → t.bootOn = false) ∧ t.cfg = s.cfg) ∧
  (∀ (s : State) (e : EnvAction), let t := s.act e
    t.cfg = s.cfg ∧
    match e with
    | .request k =>
      t = { s with mem := t.mem } ∧ (∀ j, j ≠ 0xFF0F → t.mem.read j = s.mem.read j) ∧
      (s.mem.wf = true →
        (∀ i, i < 8 → (t.mem.read 0xFF0F).getLsbD i = (decide (i = k) || (s.mem.read 0xFF0F).getLsbD i)) ∧
        ((s.mem.read 0xFF0F).getLsbD k = true → t = s))
    | .reset => t = { State.resetWith s.cfg with known := t.known, calls := s.calls, tick := s.tick } ∧
      (∀ n, cellsFind t.known n = if n = 0xFF00 then none else cellsFind s.known n)
    | .restore u => t = { u with cfg := s.cfg, known := t.known, calls := s.calls, tick := s.tick } ∧
      (∀ n, cellsFind t.known n = if n = 0xFF00 then none else cellsFind s.known n)
    | .answers cells => t = { s with known := cells, tick := s.tick + 1 }
    | .vram bank offset v =>
      let asked : Prop := s.cfg.cgbMode = true ∧ ∃ w, Call.hdma w ∈ s.calls
      (asked → t = { s with mem := s.mem.write (bank.toNat * 0x10000 + 0x8000 + offset.toNat) v }) ∧
      (¬ asked → t = s))

end
end

