-- ==== Sys2Proof/Laws/Decode.lean ====
section
/-!
SUPPORT. The decoder on three bytes is the decoder the fetch uses: what a step runs is what `decode` reads at PC.
-/

namespace Sys2Proof

theorem decodeFetched_of_decode {b0 b1 b2 : Byte} {i : Instr} {rest : List Byte}
    (h : decode [b0, b1, b2] = .ok (i, rest)) : decodeFetched b0 b1 b2 = i := by
  unfold decode at h
  unfold decodeFetched
  cases he : firstPageEntry b0 <;> simp only [he] at h ⊢ <;> (cases h; rfl)

end Sys2Proof

namespace Sys2Proof.Machine

/-- The instruction a step fetches, from the three bytes at PC. -/
theorem fetch_of_decode {s : State} {i : Instr} {rest : List Byte}
    (h : decode [s.memRead s.pc, s.memRead (s.pc + 1), s.memRead (s.pc + 2)] = .ok (i, rest)) : s.fetch = i :=
  decodeFetched_of_decode h

/-- A step that is neither idle nor interrupted nor halted runs the fetched instruction. -/
theorem tickOrInstr_running {s : State} (h : s.run ≠ .halted) : s.tickOrInstr = exec s.fetch s := by
  unfold State.tickOrInstr
  rw [if_neg h]

end Sys2Proof.Machine
end

