-- ==== Sys2Proof/Laws/Engine.lean ====
section
/-!
SUPPORT. The lines of the stepping engine one by one: when a step is idle, what the wake test leaves alone, and
what the controller answers. A proof about `step` puts these together instead of unfolding the engine.
-/

namespace Sys2Proof.Machine

theorem idle_eq_false {s : State} (hf : s.fault = none) (hr : s.run ≠ .stopped) : s.idle = false := by
  unfold State.idle
  simp [hf, hr]

theorem step_idle {s : State} (h : s.idle = true) : step s = .next s.idleStep := by
  show runStep s = _
  unfold runStep
  rw [if_pos h]

/-- A step that is not idle is its controller's answer carried on. -/
theorem step_live {s : State} (h : s.idle = false) :
    step s = andThen s.beginStep.wakeTest.controller fun t => andThen t.tickOrInstr fun u => .next u.endStep := by
  show runStep s = _
  unfold runStep
  rw [h]
  rfl

/-- The wake test does not fire. -/
theorem wakeTest_stay {s : State} (h : s.run ≠ .halted ∨ s.ifReg = s.hsnap) : s.wakeTest = s := by
  unfold State.wakeTest
  rw [if_neg]
  rintro ⟨h1, h2⟩
  rcases h with h | h
  · exact h h1
  · exact h2 h

/-- The wake test fires: RUNNING, 4 cycles, nothing else. -/
theorem wakeTest_fire {s : State} (h1 : s.run = .halted) (h2 : s.ifReg ≠ s.hsnap) :
    s.wakeTest = { s with run := .running, elapsed := s.elapsed + 4 } := by
  unfold State.wakeTest
  rw [if_pos ⟨h1, h2⟩]
  rfl

/-- All the wake test may change is RUN and the cycle count. -/
theorem wakeTest_frame (s : State) :
    s.wakeTest = { s with run := s.wakeTest.run, elapsed := s.wakeTest.elapsed } := by
  unfold State.wakeTest
  split <;> rfl

theorem controllerInvoked_eq_false {s : State} (h1 : s.ime = false) (h2 : s.hsnap = 0#8) :
    s.controllerInvoked = false := by
  unfold State.controllerInvoked
  rw [h1, h2]
  rfl

theorem toServe_none {s : State} (h : (s.ime = false ∧ s.hsnap = 0#8) ∨ s.pending = none) : s.toServe = none := by
  unfold State.toServe
  rcases h with ⟨h1, h2⟩ | h
  · rw [controllerInvoked_eq_false h1 h2]
    rfl
  · split
    · exact h
    · rfl

theorem toServe_some {s : State} {k : Fin 5} (h : s.ime = true ∨ s.hsnap ≠ 0#8) (hp : s.pending = some k) :
    s.toServe = some k := by
  unfold State.toServe State.controllerInvoked
  rw [if_pos, hp]
  rcases h with h | h <;> simp [h]

theorem controller_none {s : State} (h : s.toServe = none) : s.controller = .next s := by
  unfold State.controller
  rw [h]

/-- The controller serves the pending source: 20 cycles, whatever IME, but for the policy `refuse`. -/
theorem controller_some {s : State} {k : Fin 5} (h : s.toServe = some k)
    (hp : s.ime = true ∨ s.cfg.imeBypass = .serve) :
    s.controller = .next ((s.serve k).addCycles serviceCycles) := by
  unfold State.controller
  rw [h]
  dsimp only
  rw [if_pos]
  rcases hp with hp | hp <;> simp [hp]

theorem controller_refuses {s : State} {k : Fin 5} (h : s.toServe = some k) (h1 : s.ime = false)
    (h2 : s.cfg.imeBypass = .refuse) : s.controller = .refused .imeBypass := by
  unfold State.controller
  rw [h]
  dsimp only
  rw [if_neg]
  rw [h1, h2]
  decide

/-- The instruction line on a halted state. -/
theorem tickOrInstr_halted {s : State} (h : s.run = .halted) : s.tickOrInstr = .next (s.addCycles 4) := by
  unfold State.tickOrInstr
  rw [if_pos h]
  rfl

end Sys2Proof.Machine
end

