-- ==== Sys2Proof/Laws/State.lean ====
section
/-!
SUPPORT. What each update of the state leaves alone, one lemma per update and field, so that no later proof
unfolds an update; and the one fact all of them follow from for a store: it changes the memory side only.
-/

namespace Sys2Proof.Machine

/-! ## A store changes the memory side only -/

theorem memorySide_self (s : State) : s.memorySide s = s := rfl

theorem memorySide_trans (s t u : State) (h : t = s.memorySide t) : t.memorySide u = s.memorySide u := by
  rw [h]; rfl

theorem store_eq (s : State) (k : Nat) (v : Byte) : s.store k v = s.memorySide (s.store k v) := rfl

theorem callOut_eq (s : State) (k : Call) : s.callOut k = s.memorySide (s.callOut k) := rfl

/-- A fold of updates that each change the memory side only changes the memory side only. -/
theorem foldl_eq {α : Type} (g : State → α → State) (hg : ∀ s i, g s i = s.memorySide (g s i)) (xs : List α)
    (s : State) : xs.foldl g s = s.memorySide (xs.foldl g s) := by
  induction xs generalizing s with
  | nil => rfl
  | cons i xs ih => rw [List.foldl_cons, ih, memorySide_trans _ _ _ (hg s i)]; rfl

theorem dmaCopy_eq (s : State) (v : Byte) : s.dmaCopy v = s.memorySide (s.dmaCopy v) := by
  unfold State.dmaCopy
  exact foldl_eq (State.dmaByte v) (fun t i => store_eq t _ _) _ s

theorem requestHdma_eq (s : State) (v : Byte) : s.requestHdma v = s.memorySide (s.requestHdma v) := by
  have h := foldl_eq State.hdmaByte (fun t x => store_eq t _ _)
    (Config.hdmaWrites (s.callOut (.hdma v)).tick (s.callOut (.hdma v)).calls) (s.callOut (.hdma v))
  exact h.trans (memorySide_trans _ _ _ (callOut_eq s _))

/-- A port or high address whose write no intercept catches (R101). -/
def State.noIntercept (s : State) (x : Word) : Prop :=
  0xFF00 < x.toNat ∧ x.toNat ≠ 0xFF04 ∧ x.toNat ≠ 0xFF46 ∧ x.toNat ≠ 0xFF50 ∧
    ¬(x.toNat = 0xFF55 ∧ s.cfg.cgbMode = true)

/-- Everything a `MemWrite` can do, by the lines of 20_memory.md R101. A property of the state after holds if it
holds after each of them. -/
theorem memWrite_cases {P : State → Prop} (s : State) (x : Word) (v : Byte)
    (rom : x.toNat < 0x8000 → P (s.callOut (.romWrite x v)))
    (vram : 0x8000 ≤ x.toNat → x.toNat < 0xA000 → P (s.store (s.vramCell x.toNat) v))
    (xram : 0xA000 ≤ x.toNat → x.toNat < 0xC000 → P (s.callOut (.xramWrite x v)))
    (wram : 0xC000 ≤ x.toNat → x.toNat < 0xFE00 → P (s.store (s.wramCell (unecho x.toNat)) v))
    (oam : 0xFE00 ≤ x.toNat → x.toNat < 0xFEA0 → P (s.store x.toNat v))
    (gap : 0xFEA0 ≤ x.toNat → x.toNat < 0xFF00 → P s)
    (joypad : x.toNat = 0xFF00 → P (s.writeJoypad v))
    (divider : x.toNat = 0xFF04 → P (s.setIo 0x04 0x00#8))
    (dma : x.toNat = 0xFF46 → P ((s.setIo 0x46 v).dmaCopy v))
    (boot : x.toNat = 0xFF50 → P { s.setIo 0x50 v with bootOn := false })
    (hdma : x.toNat = 0xFF55 → s.cfg.cgbMode = true → P ((s.setIo 0x55 v).requestHdma v))
    (audio : s.noIntercept x → inRanges s.cfg.audioOwned x.toNat = true → P (s.callOut (.audioWrite x v)))
    (video : s.noIntercept x → inRanges s.cfg.audioOwned x.toNat = false →
      inRanges s.cfg.videoOwned x.toNat = true → P (s.callOut (.videoWrite x v)))
    (plain : s.noIntercept x → inRanges s.cfg.audioOwned x.toNat = false →
      inRanges s.cfg.videoOwned x.toNat = false → x.toNat < 0xFFFF → P (s.store x.toNat v))
    (ie : inRanges s.cfg.audioOwned x.toNat = false → inRanges s.cfg.videoOwned x.toNat = false →
      x.toNat = 0xFFFF → P { s with ie := v }) : P (s.memWrite x v) := by
  have hx := x.isLt
  unfold State.memWrite
  by_cases h0 : x.toNat < 0x8000
  · rw [if_pos h0]; exact rom h0
  rw [if_neg h0]
  by_cases h1 : x.toNat < 0xA000
  · rw [if_pos h1]; exact vram (by omega) h1
  rw [if_neg h1]
  by_cases h2 : x.toNat < 0xC000
  · rw [if_pos h2]; exact xram (by omega) h2
  rw [if_neg h2]
  by_cases h3 : x.toNat < 0xFE00
  · rw [if_pos h3]; exact wram (by omega) h3
  rw [if_neg h3]
  by_cases h4 : x.toNat < 0xFEA0
  · rw [if_pos h4]; exact oam (by omega) h4
  rw [if_neg h4]
  by_cases h5 : x.toNat < 0xFF00
  · rw [if_pos h5]; exact gap (by omega) h5
  rw [if_neg h5]
  by_cases h6 : x.toNat = 0xFF00
  · rw [if_pos h6]; exact joypad h6
  rw [if_neg h6]
  by_cases h7 : x.toNat = 0xFF04
  · rw [if_pos h7]; exact divider h7
  rw [if_neg h7]
  by_cases h8 : x.toNat = 0xFF46
  · rw [if_pos h8]; exact dma h8
  rw [if_neg h8]
  by_cases h9 : x.toNat = 0xFF50
  · rw [if_pos h9]; exact boot h9
  rw [if_neg h9]
  by_cases h10 : x.toNat = 0xFF55 ∧ s.cfg.cgbMode = true
  · rw [if_pos h10]; exact hdma h10.1 h10.2
  rw [if_neg h10]
  have hn : s.noIntercept x := ⟨by omega, h7, h8, h9, h10⟩
  by_cases h11 : inRanges s.cfg.audioOwned x.toNat = true
  · rw [if_pos h11]; exact audio hn h11
  rw [if_neg h11]
  by_cases h12 : inRanges s.cfg.videoOwned x.toNat = true
  · rw [if_pos h12]; exact video hn (by simpa using h11) h12
  rw [if_neg h12]
  by_cases h13 : x.toNat < 0xFFFF
  · rw [if_pos h13]; exact plain hn (by simpa using h11) (by simpa using h12) h13
  rw [if_neg h13]
  exact ie (by simpa using h11) (by simpa using h12) (by omega)

theorem memWrite_eq (s : State) (x : Word) (v : Byte) : s.memWrite x v = s.memorySide (s.memWrite x v) := by
  apply memWrite_cases (P := fun t => t = s.memorySide t)
  case dma => exact fun _ => (dmaCopy_eq _ v).trans (memorySide_trans _ _ _ (store_eq s _ _))
  case hdma => exact fun _ _ => (requestHdma_eq _ v).trans (memorySide_trans _ _ _ (store_eq s _ _))
  all_goals intros; rfl

theorem memWrite16_eq (s : State) (x w : Word) : s.memWrite16 x w = s.memorySide (s.memWrite16 x w) :=
  (memWrite_eq _ _ _).trans (memorySide_trans _ _ _ (memWrite_eq s _ _))

theorem push16_eq (s : State) (w : Word) :
    s.push16 w = { s.memorySide (s.push16 w) with sp := s.sp - 2 } := by
  have h := (memWrite_eq (s.memWrite (s.sp - 1) (hi w)) (s.sp - 2) (lo w)).trans
    (memorySide_trans _ _ _ (memWrite_eq s _ _))
  show { (s.memWrite (s.sp - 1) (hi w)).memWrite (s.sp - 2) (lo w) with sp := s.sp - 2 } = _
  rw [h]; rfl

/-! ## The two halves of a word -/

@[simp] theorem mk16_hi_lo (w : Word) : mk16 (hi w) (lo w) = w := by
  apply BitVec.eq_of_getLsbD_eq
  intro i hi'
  simp only [mk16, hi, lo, BitVec.getLsbD_append, BitVec.getLsbD_extractLsb']
  by_cases h : i < 8
  · simp [h]
  · simp [h, show i - 8 < 8 by omega, show 8 + (i - 8) = i by omega]

@[simp] theorem hi_mk16 (h l : Byte) : hi (mk16 h l) = h := by
  apply BitVec.eq_of_getLsbD_eq
  intro i hi'
  rw [mk16, hi, BitVec.getLsbD_extractLsb', BitVec.getLsbD_append]
  simp [hi']

@[simp] theorem lo_mk16 (h l : Byte) : lo (mk16 h l) = l := by
  apply BitVec.eq_of_getLsbD_eq
  intro i hi'
  rw [mk16, lo, BitVec.getLsbD_extractLsb', BitVec.getLsbD_append]
  simp [hi']

/-! ## Reading back what an update writes -/

@[simp] theorem advance_pc (s : State) (n : Nat) : (s.advance n).pc = s.pc + BitVec.ofNat 16 n := rfl
@[simp] theorem setPc_pc (s : State) (w : Word) : (s.setPc w).pc = w := rfl
@[simp] theorem store_mem (s : State) (k : Nat) (v : Byte) : (s.store k v).mem = s.mem.write k v := rfl
@[simp] theorem setIo_mem (s : State) (p : Nat) (v : Byte) :
    (s.setIo p v).mem = s.mem.write (0xFF00 + p) v := rfl
@[simp] theorem callOut_calls (s : State) (k : Call) : (s.callOut k).calls = k :: s.calls := rfl
@[simp] theorem dropWord_sp (s : State) : s.dropWord.sp = s.sp + 2 := rfl
@[simp] theorem push16_sp (s : State) (w : Word) : (s.push16 w).sp = s.sp - 2 := rfl
@[simp] theorem raiseUnimplemented_fault (s : State) (v : Byte) :
    (s.raiseUnimplemented v).fault = some ⟨s.pc, v⟩ := rfl
@[simp] theorem setFlags_f (s : State) (x : Flags) : (s.setFlags x).f = x.byte ||| (s.f &&& 0x0F#8) := rfl
@[simp] theorem addCycles_elapsed (s : State) (n : Nat) : (s.addCycles n).elapsed = s.elapsed + n := rfl
@[simp] theorem spend_elapsed (s : State) (op : Nat) (y : Bool) :
    (s.spend op y).elapsed = s.elapsed + cyclesOf s.cfg op y := rfl
@[simp] theorem setHl_hl (s : State) (w : Word) : (s.setHl w).hl = w := by
  simp [State.setHl, State.hl]
@[simp] theorem getReg_setReg (s : State) (r : Reg8) (v : Byte) : (s.setReg r v).getReg r = v := by
  cases r <;> rfl
theorem getReg_setReg_ne (s : State) {r q : Reg8} (v : Byte) (h : q ≠ r) :
    (s.setReg r v).getReg q = s.getReg q := by
  cases r <;> cases q <;> first | rfl | exact absurd rfl h

/-! ## What an update leaves alone -/

@[simp] theorem setHl_a (s : State) (w : Word) : (s.setHl w).a = s.a := rfl
@[simp] theorem setHl_b (s : State) (w : Word) : (s.setHl w).b = s.b := rfl
@[simp] theorem setHl_c (s : State) (w : Word) : (s.setHl w).c = s.c := rfl
@[simp] theorem setHl_d (s : State) (w : Word) : (s.setHl w).d = s.d := rfl
@[simp] theorem setHl_e (s : State) (w : Word) : (s.setHl w).e = s.e := rfl
@[simp] theorem setHl_f (s : State) (w : Word) : (s.setHl w).f = s.f := rfl
@[simp] theorem setHl_pc (s : State) (w : Word) : (s.setHl w).pc = s.pc := rfl
@[simp] theorem setHl_sp (s : State) (w : Word) : (s.setHl w).sp = s.sp := rfl
@[simp] theorem setHl_ime (s : State) (w : Word) : (s.setHl w).ime = s.ime := rfl
@[simp] theorem setHl_ie (s : State) (w : Word) : (s.setHl w).ie = s.ie := rfl
@[simp] theorem setHl_run (s : State) (w : Word) : (s.setHl w).run = s.run := rfl
@[simp] theorem setHl_hsnap (s : State) (w : Word) : (s.setHl w).hsnap = s.hsnap := rfl
@[simp] theorem setHl_fault (s : State) (w : Word) : (s.setHl w).fault = s.fault := rfl
@[simp] theorem setHl_divAcc (s : State) (w : Word) : (s.setHl w).divAcc = s.divAcc := rfl
@[simp] theorem setHl_timAcc (s : State) (w : Word) : (s.setHl w).timAcc = s.timAcc := rfl
@[simp] theorem setHl_speed (s : State) (w : Word) : (s.setHl w).speed = s.speed := rfl
@[simp] theorem setHl_speedPend (s : State) (w : Word) : (s.setHl w).speedPend = s.speedPend := rfl
@[simp] theorem setHl_bootOn (s : State) (w : Word) : (s.setHl w).bootOn = s.bootOn := rfl
@[simp] theorem setHl_mem (s : State) (w : Word) : (s.setHl w).mem = s.mem := rfl
@[simp] theorem setHl_cfg (s : State) (w : Word) : (s.setHl w).cfg = s.cfg := rfl
@[simp] theorem setHl_known (s : State) (w : Word) : (s.setHl w).known = s.known := rfl
@[simp] theorem setHl_calls (s : State) (w : Word) : (s.setHl w).calls = s.calls := rfl
@[simp] theorem setHl_tick (s : State) (w : Word) : (s.setHl w).tick = s.tick := rfl
@[simp] theorem setHl_elapsed (s : State) (w : Word) : (s.setHl w).elapsed = s.elapsed := rfl
@[simp] theorem setHl_returned (s : State) (w : Word) : (s.setHl w).returned = s.returned := rfl

@[simp] theorem advance_a (s : State) (n : Nat) : (s.advance n).a = s.a := rfl
@[simp] theorem advance_b (s : State) (n : Nat) : (s.advance n).b = s.b := rfl
@[simp] theorem advance_c (s : State) (n : Nat) : (s.advance n).c = s.c := rfl
@[simp] theorem advance_d (s : State) (n : Nat) : (s.advance n).d = s.d := rfl
@[simp] theorem advance_e (s : State) (n : Nat) : (s.advance n).e = s.e := rfl
@[simp] theorem advance_h (s : State) (n : Nat) : (s.advance n).h = s.h := rfl
@[simp] theorem advance_l (s : State) (n : Nat) : (s.advance n).l = s.l := rfl
@[simp] theorem advance_f (s : State) (n : Nat) : (s.advance n).f = s.f := rfl
@[simp] theorem advance_sp (s : State) (n : Nat) : (s.advance n).sp = s.sp := rfl
@[simp] theorem advance_ime (s : State) (n : Nat) : (s.advance n).ime = s.ime := rfl
@[simp] theorem advance_ie (s : State) (n : Nat) : (s.advance n).ie = s.ie := rfl
@[simp] theorem advance_run (s : State) (n : Nat) : (s.advance n).run = s.run := rfl
@[simp] theorem advance_hsnap (s : State) (n : Nat) : (s.advance n).hsnap = s.hsnap := rfl
@[simp] theorem advance_fault (s : State) (n : Nat) : (s.advance n).fault = s.fault := rfl
@[simp] theorem advance_divAcc (s : State) (n : Nat) : (s.advance n).divAcc = s.divAcc := rfl
@[simp] theorem advance_timAcc (s : State) (n : Nat) : (s.advance n).timAcc = s.timAcc := rfl
@[simp] theorem advance_speed (s : State) (n : Nat) : (s.advance n).speed = s.speed := rfl
@[simp] theorem advance_speedPend (s : State) (n : Nat) : (s.advance n).speedPend = s.speedPend := rfl
@[simp] theorem advance_bootOn (s : State) (n : Nat) : (s.advance n).bootOn = s.bootOn := rfl
@[simp] theorem advance_mem (s : State) (n : Nat) : (s.advance n).mem = s.mem := rfl
@[simp] theorem advance_cfg (s : State) (n : Nat) : (s.advance n).cfg = s.cfg := rfl
@[simp] theorem advance_known (s : State) (n : Nat) : (s.advance n).known = s.known := rfl
@[simp] theorem advance_calls (s : State) (n : Nat) : (s.advance n).calls = s.calls := rfl
@[simp] theorem advance_tick (s : State) (n : Nat) : (s.advance n).tick = s.tick := rfl
@[simp] theorem advance_elapsed (s : State) (n : Nat) : (s.advance n).elapsed = s.elapsed := rfl
@[simp] theorem advance_returned (s : State) (n : Nat) : (s.advance n).returned = s.returned := rfl

@[simp] theorem setPc_a (s : State) (w : Word) : (s.setPc w).a = s.a := rfl
@[simp] theorem setPc_b (s : State) (w : Word) : (s.setPc w).b = s.b := rfl
@[simp] theorem setPc_c (s : State) (w : Word) : (s.setPc w).c = s.c := rfl
@[simp] theorem setPc_d (s : State) (w : Word) : (s.setPc w).d = s.d := rfl
@[simp] theorem setPc_e (s : State) (w : Word) : (s.setPc w).e = s.e := rfl
@[simp] theorem setPc_h (s : State) (w : Word) : (s.setPc w).h = s.h := rfl
@[simp] theorem setPc_l (s : State) (w : Word) : (s.setPc w).l = s.l := rfl
@[simp] theorem setPc_f (s : State) (w : Word) : (s.setPc w).f = s.f := rfl
@[simp] theorem setPc_sp (s : State) (w : Word) : (s.setPc w).sp = s.sp := rfl
@[simp] theorem setPc_ime (s : State) (w : Word) : (s.setPc w).ime = s.ime := rfl
@[simp] theorem setPc_ie (s : State) (w : Word) : (s.setPc w).ie = s.ie := rfl
@[simp] theorem setPc_run (s : State) (w : Word) : (s.setPc w).run = s.run := rfl
@[simp] theorem setPc_hsnap (s : State) (w : Word) : (s.setPc w).hsnap = s.hsnap := rfl
@[simp] theorem setPc_fault (s : State) (w : Word) : (s.setPc w).fault = s.fault := rfl
@[simp] theorem setPc_divAcc (s : State) (w : Word) : (s.setPc w).divAcc = s.divAcc := rfl
@[simp] theorem setPc_timAcc (s : State) (w : Word) : (s.setPc w).timAcc = s.timAcc := rfl
@[simp] theorem setPc_speed (s : State) (w : Word) : (s.setPc w).speed = s.speed := rfl
@[simp] theorem setPc_speedPend (s : State) (w : Word) : (s.setPc w).speedPend = s.speedPend := rfl
@[simp] theorem setPc_bootOn (s : State) (w : Word) : (s.setPc w).bootOn = s.bootOn := rfl
@[simp] theorem setPc_mem (s : State) (w : Word) : (s.setPc w).mem = s.mem := rfl
@[simp] theorem setPc_cfg (s : State) (w : Word) : (s.setPc w).cfg = s.cfg := rfl
@[simp] theorem setPc_known (s : State) (w : Word) : (s.setPc w).known = s.known := rfl
@[simp] theorem setPc_calls (s : State) (w : Word) : (s.setPc w).calls = s.calls := rfl
@[simp] theorem setPc_tick (s : State) (w : Word) : (s.setPc w).tick = s.tick := rfl
@[simp] theorem setPc_elapsed (s : State) (w : Word) : (s.setPc w).elapsed = s.elapsed := rfl
@[simp] theorem setPc_returned (s : State) (w : Word) : (s.setPc w).returned = s.returned := rfl

@[simp] theorem store_a (s : State) (k : Nat) (v : Byte) : (s.store k v).a = s.a := rfl
@[simp] theorem store_b (s : State) (k : Nat) (v : Byte) : (s.store k v).b = s.b := rfl
@[simp] theorem store_c (s : State) (k : Nat) (v : Byte) : (s.store k v).c = s.c := rfl
@[simp] theorem store_d (s : State) (k : Nat) (v : Byte) : (s.store k v).d = s.d := rfl
@[simp] theorem store_e (s : State) (k : Nat) (v : Byte) : (s.store k v).e = s.e := rfl
@[simp] theorem store_h (s : State) (k : Nat) (v : Byte) : (s.store k v).h = s.h := rfl
@[simp] theorem store_l (s : State) (k : Nat) (v : Byte) : (s.store k v).l = s.l := rfl
@[simp] theorem store_f (s : State) (k : Nat) (v : Byte) : (s.store k v).f = s.f := rfl
@[simp] theorem store_pc (s : State) (k : Nat) (v : Byte) : (s.store k v).pc = s.pc := rfl
@[simp] theorem store_sp (s : State) (k : Nat) (v : Byte) : (s.store k v).sp = s.sp := rfl
@[simp] theorem store_ime (s : State) (k : Nat) (v : Byte) : (s.store k v).ime = s.ime := rfl
@[simp] theorem store_ie (s : State) (k : Nat) (v : Byte) : (s.store k v).ie = s.ie := rfl
@[simp] theorem store_run (s : State) (k : Nat) (v : Byte) : (s.store k v).run = s.run := rfl
@[simp] theorem store_hsnap (s : State) (k : Nat) (v : Byte) : (s.store k v).hsnap = s.hsnap := rfl
@[simp] theorem store_fault (s : State) (k : Nat) (v : Byte) : (s.store k v).fault = s.fault := rfl
@[simp] theorem store_divAcc (s : State) (k : Nat) (v : Byte) : (s.store k v).divAcc = s.divAcc := rfl
@[simp] theorem store_timAcc (s : State) (k : Nat) (v : Byte) : (s.store k v).timAcc = s.timAcc := rfl
@[simp] theorem store_speed (s : State) (k : Nat) (v : Byte) : (s.store k v).speed = s.speed := rfl
@[simp] theorem store_speedPend (s : State) (k : Nat) (v : Byte) : (s.store k v).speedPend = s.speedPend := rfl
@[simp] theorem store_bootOn (s : State) (k : Nat) (v : Byte) : (s.store k v).bootOn = s.bootOn := rfl
@[simp] theorem store_cfg (s : State) (k : Nat) (v : Byte) : (s.store k v).cfg = s.cfg := rfl
@[simp] theorem store_known (s : State) (k : Nat) (v : Byte) : (s.store k v).known = s.known := rfl
@[simp] theorem store_calls (s : State) (k : Nat) (v : Byte) : (s.store k v).calls = s.calls := rfl
@[simp] theorem store_tick (s : State) (k : Nat) (v : Byte) : (s.store k v).tick = s.tick := rfl
@[simp] theorem store_elapsed (s : State) (k : Nat) (v : Byte) : (s.store k v).elapsed = s.elapsed := rfl
@[simp] theorem store_returned (s : State) (k : Nat) (v : Byte) : (s.store k v).returned = s.returned := rfl

@[simp] theorem setIo_a (s : State) (p : Nat) (v : Byte) : (s.setIo p v).a = s.a := rfl
@[simp] theorem setIo_b (s : State) (p : Nat) (v : Byte) : (s.setIo p v).b = s.b := rfl
@[simp] theorem setIo_c (s : State) (p : Nat) (v : Byte) : (s.setIo p v).c = s.c := rfl
@[simp] theorem setIo_d (s : State) (p : Nat) (v : Byte) : (s.setIo p v).d = s.d := rfl
@[simp] theorem setIo_e (s : State) (p : Nat) (v : Byte) : (s.setIo p v).e = s.e := rfl
@[simp] theorem setIo_h (s : State) (p : Nat) (v : Byte) : (s.setIo p v).h = s.h := rfl
@[simp] theorem setIo_l (s : State) (p : Nat) (v : Byte) : (s.setIo p v).l = s.l := rfl
@[simp] theorem setIo_f (s : State) (p : Nat) (v : Byte) : (s.setIo p v).f = s.f := rfl
@[simp] theorem setIo_pc (s : State) (p : Nat) (v : Byte) : (s.setIo p v).pc = s.pc := rfl
@[simp] theorem setIo_sp (s : State) (p : Nat) (v : Byte) : (s.setIo p v).sp = s.sp := rfl
@[simp] theorem setIo_ime (s : State) (p : Nat) (v : Byte) : (s.setIo p v).ime = s.ime := rfl
@[simp] theorem setIo_ie (s : State) (p : Nat) (v : Byte) : (s.setIo p v).ie = s.ie := rfl
@[simp] theorem setIo_run (s : State) (p : Nat) (v : Byte) : (s.setIo p v).run = s.run := rfl
@[simp] theorem setIo_hsnap (s : State) (p : Nat) (v : Byte) : (s.setIo p v).hsnap = s.hsnap := rfl
@[simp] theorem setIo_fault (s : State) (p : Nat) (v : Byte) : (s.setIo p v).fault = s.fault := rfl
@[simp] theorem setIo_divAcc (s : State) (p : Nat) (v : Byte) : (s.setIo p v).divAcc = s.divAcc := rfl
@[simp] theorem setIo_timAcc (s : State) (p : Nat) (v : Byte) : (s.setIo p v).timAcc = s.timAcc := rfl
@[simp] theorem setIo_speed (s : State) (p : Nat) (v : Byte) : (s.setIo p v).speed = s.speed := rfl
@[simp] theorem setIo_speedPend (s : State) (p : Nat) (v : Byte) : (s.setIo p v).speedPend = s.speedPend := rfl
@[simp] theorem setIo_bootOn (s : State) (p : Nat) (v : Byte) : (s.setIo p v).bootOn = s.bootOn := rfl
@[simp] theorem setIo_cfg (s : State) (p : Nat) (v : Byte) : (s.setIo p v).cfg = s.cfg := rfl
@[simp] theorem setIo_known (s : State) (p : Nat) (v : Byte) : (s.setIo p v).known = s.known := rfl
@[simp] theorem setIo_calls (s : State) (p : Nat) (v : Byte) : (s.setIo p v).calls = s.calls := rfl
@[simp] theorem setIo_tick (s : State) (p : Nat) (v : Byte) : (s.setIo p v).tick = s.tick := rfl
@[simp] theorem setIo_elapsed (s : State) (p : Nat) (v : Byte) : (s.setIo p v).elapsed = s.elapsed := rfl
@[simp] theorem setIo_returned (s : State) (p : Nat) (v : Byte) : (s.setIo p v).returned = s.returned := rfl

@[simp] theorem callOut_a (s : State) (k : Call) : (s.callOut k).a = s.a := rfl
@[simp] theorem callOut_b (s : State) (k : Call) : (s.callOut k).b = s.b := rfl
@[simp] theorem callOut_c (s : State) (k : Call) : (s.callOut k).c = s.c := rfl
@[simp] theorem callOut_d (s : State) (k : Call) : (s.callOut k).d = s.d := rfl
@[simp] theorem callOut_e (s : State) (k : Call) : (s.callOut k).e = s.e := rfl
@[simp] theorem callOut_h (s : State) (k : Call) : (s.callOut k).h = s.h := rfl
@[simp] theorem callOut_l (s : State) (k : Call) : (s.callOut k).l = s.l := rfl
@[simp] theorem callOut_f (s : State) (k : Call) : (s.callOut k).f = s.f := rfl
@[simp] theorem callOut_pc (s : State) (k : Call) : (s.callOut k).pc = s.pc := rfl
@[simp] theorem callOut_sp (s : State) (k : Call) : (s.callOut k).sp = s.sp := rfl
@[simp] theorem callOut_ime (s : State) (k : Call) : (s.callOut k).ime = s.ime := rfl
@[simp] theorem callOut_ie (s : State) (k : Call) : (s.callOut k).ie = s.ie := rfl
@[simp] theorem callOut_run (s : State) (k : Call) : (s.callOut k).run = s.run := rfl
@[simp] theorem callOut_hsnap (s : State) (k : Call) : (s.callOut k).hsnap = s.hsnap := rfl
@[simp] theorem callOut_fault (s : State) (k : Call) : (s.callOut k).fault = s.fault := rfl
@[simp] theorem callOut_divAcc (s : State) (k : Call) : (s.callOut k).divAcc = s.divAcc := rfl
@[simp] theorem callOut_timAcc (s : State) (k : Call) : (s.callOut k).timAcc = s.timAcc := rfl
@[simp] theorem callOut_speed (s : State) (k : Call) : (s.callOut k).speed = s.speed := rfl
@[simp] theorem callOut_speedPend (s : State) (k : Call) : (s.callOut k).speedPend = s.speedPend := rfl
@[simp] theorem callOut_bootOn (s : State) (k : Call) : (s.callOut k).bootOn = s.bootOn := rfl
@[simp] theorem callOut_mem (s : State) (k : Call) : (s.callOut k).mem = s.mem := rfl
@[simp] theorem callOut_cfg (s : State) (k : Call) : (s.callOut k).cfg = s.cfg := rfl
@[simp] theorem callOut_tick (s : State) (k : Call) : (s.callOut k).tick = s.tick := rfl
@[simp] theorem callOut_elapsed (s : State) (k : Call) : (s.callOut k).elapsed = s.elapsed := rfl
@[simp] theorem callOut_returned (s : State) (k : Call) : (s.callOut k).returned = s.returned := rfl

@[simp] theorem forgetInput_a (s : State) : (s.forgetInput).a = s.a := rfl
@[simp] theorem forgetInput_b (s : State) : (s.forgetInput).b = s.b := rfl
@[simp] theorem forgetInput_c (s : State) : (s.forgetInput).c = s.c := rfl
@[simp] theorem forgetInput_d (s : State) : (s.forgetInput).d = s.d := rfl
@[simp] theorem forgetInput_e (s : State) : (s.forgetInput).e = s.e := rfl
@[simp] theorem forgetInput_h (s : State) : (s.forgetInput).h = s.h := rfl
@[simp] theorem forgetInput_l (s : State) : (s.forgetInput).l = s.l := rfl
@[simp] theorem forgetInput_f (s : State) : (s.forgetInput).f = s.f := rfl
@[simp] theorem forgetInput_pc (s : State) : (s.forgetInput).pc = s.pc := rfl
@[simp] theorem forgetInput_sp (s : State) : (s.forgetInput).sp = s.sp := rfl
@[simp] theorem forgetInput_ime (s : State) : (s.forgetInput).ime = s.ime := rfl
@[simp] theorem forgetInput_ie (s : State) : (s.forgetInput).ie = s.ie := rfl
@[simp] theorem forgetInput_run (s : State) : (s.forgetInput).run = s.run := rfl
@[simp] theorem forgetInput_hsnap (s : State) : (s.forgetInput).hsnap = s.hsnap := rfl
@[simp] theorem forgetInput_fault (s : State) : (s.forgetInput).fault = s.fault := rfl
@[simp] theorem forgetInput_divAcc (s : State) : (s.forgetInput).divAcc = s.divAcc := rfl
@[simp] theorem forgetInput_timAcc (s : State) : (s.forgetInput).timAcc = s.timAcc := rfl
@[simp] theorem forgetInput_speed (s : State) : (s.forgetInput).speed = s.speed := rfl
@[simp] theorem forgetInput_speedPend (s : State) : (s.forgetInput).speedPend = s.speedPend := rfl
@[simp] theorem forgetInput_bootOn (s : State) : (s.forgetInput).bootOn = s.bootOn := rfl
@[simp] theorem forgetInput_mem (s : State) : (s.forgetInput).mem = s.mem := rfl
@[simp] theorem forgetInput_cfg (s : State) : (s.forgetInput).cfg = s.cfg := rfl
@[simp] theorem forgetInput_calls (s : State) : (s.forgetInput).calls = s.calls := rfl
@[simp] theorem forgetInput_tick (s : State) : (s.forgetInput).tick = s.tick := rfl
@[simp] theorem forgetInput_elapsed (s : State) : (s.forgetInput).elapsed = s.elapsed := rfl
@[simp] theorem forgetInput_returned (s : State) : (s.forgetInput).returned = s.returned := rfl

@[simp] theorem writeJoypad_a (s : State) (v : Byte) : (s.writeJoypad v).a = s.a := rfl
@[simp] theorem writeJoypad_b (s : State) (v : Byte) : (s.writeJoypad v).b = s.b := rfl
@[simp] theorem writeJoypad_c (s : State) (v : Byte) : (s.writeJoypad v).c = s.c := rfl
@[simp] theorem writeJoypad_d (s : State) (v : Byte) : (s.writeJoypad v).d = s.d := rfl
@[simp] theorem writeJoypad_e (s : State) (v : Byte) : (s.writeJoypad v).e = s.e := rfl
@[simp] theorem writeJoypad_h (s : State) (v : Byte) : (s.writeJoypad v).h = s.h := rfl
@[simp] theorem writeJoypad_l (s : State) (v : Byte) : (s.writeJoypad v).l = s.l := rfl
@[simp] theorem writeJoypad_f (s : State) (v : Byte) : (s.writeJoypad v).f = s.f := rfl
@[simp] theorem writeJoypad_pc (s : State) (v : Byte) : (s.writeJoypad v).pc = s.pc := rfl
@[simp] theorem writeJoypad_sp (s : State) (v : Byte) : (s.writeJoypad v).sp = s.sp := rfl
@[simp] theorem writeJoypad_ime (s : State) (v : Byte) : (s.writeJoypad v).ime = s.ime := rfl
@[simp] theorem writeJoypad_ie (s : State) (v : Byte) : (s.writeJoypad v).ie = s.ie := rfl
@[simp] theorem writeJoypad_run (s : State) (v : Byte) : (s.writeJoypad v).run = s.run := rfl
@[simp] theorem writeJoypad_hsnap (s : State) (v : Byte) : (s.writeJoypad v).hsnap = s.hsnap := rfl
@[simp] theorem writeJoypad_fault (s : State) (v : Byte) : (s.writeJoypad v).fault = s.fault := rfl
@[simp] theorem writeJoypad_divAcc (s : State) (v : Byte) : (s.writeJoypad v).divAcc = s.divAcc := rfl
@[simp] theorem writeJoypad_timAcc (s : State) (v : Byte) : (s.writeJoypad v).timAcc = s.timAcc := rfl
@[simp] theorem writeJoypad_speed (s : State) (v : Byte) : (s.writeJoypad v).speed = s.speed := rfl
@[simp] theorem writeJoypad_speedPend (s : State) (v : Byte) : (s.writeJoypad v).speedPend = s.speedPend := rfl
@[simp] theorem writeJoypad_bootOn (s : State) (v : Byte) : (s.writeJoypad v).bootOn = s.bootOn := rfl
@[simp] theorem writeJoypad_cfg (s : State) (v : Byte) : (s.writeJoypad v).cfg = s.cfg := rfl
@[simp] theorem writeJoypad_calls (s : State) (v : Byte) : (s.writeJoypad v).calls = s.calls := rfl
@[simp] theorem writeJoypad_tick (s : State) (v : Byte) : (s.writeJoypad v).tick = s.tick := rfl
@[simp] theorem writeJoypad_elapsed (s : State) (v : Byte) : (s.writeJoypad v).elapsed = s.elapsed := rfl
@[simp] theorem writeJoypad_returned (s : State) (v : Byte) : (s.writeJoypad v).returned = s.returned := rfl

@[simp] theorem hdmaByte_a (s : State) (x : BitVec 1 × BitVec 13 × BitVec 8) : (s.hdmaByte x).a = s.a := rfl
@[simp] theorem hdmaByte_b (s : State) (x : BitVec 1 × BitVec 13 × BitVec 8) : (s.hdmaByte x).b = s.b := rfl
@[simp] theorem hdmaByte_c (s : State) (x : BitVec 1 × BitVec 13 × BitVec 8) : (s.hdmaByte x).c = s.c := rfl
@[simp] theorem hdmaByte_d (s : State) (x : BitVec 1 × BitVec 13 × BitVec 8) : (s.hdmaByte x).d = s.d := rfl
@[simp] theorem hdmaByte_e (s : State) (x : BitVec 1 × BitVec 13 × BitVec 8) : (s.hdmaByte x).e = s.e := rfl
@[simp] theorem hdmaByte_h (s : State) (x : BitVec 1 × BitVec 13 × BitVec 8) : (s.hdmaByte x).h = s.h := rfl
@[simp] theorem hdmaByte_l (s : State) (x : BitVec 1 × BitVec 13 × BitVec 8) : (s.hdmaByte x).l = s.l := rfl
@[simp] theorem hdmaByte_f (s : State) (x : BitVec 1 × BitVec 13 × BitVec 8) : (s.hdmaByte x).f = s.f := rfl
@[simp] theorem hdmaByte_pc (s : State) (x : BitVec 1 × BitVec 13 × BitVec 8) : (s.hdmaByte x).pc = s.pc := rfl
@[simp] theorem hdmaByte_sp (s : State) (x : BitVec 1 × BitVec 13 × BitVec 8) : (s.hdmaByte x).sp = s.sp := rfl
@[simp] theorem hdmaByte_ime (s : State) (x : BitVec 1 × BitVec 13 × BitVec 8) : (s.hdmaByte x).ime = s.ime := rfl
@[simp] theorem hdmaByte_ie (s : State) (x : BitVec 1 × BitVec 13 × BitVec 8) : (s.hdmaByte x).ie = s.ie := rfl
@[simp] theorem hdmaByte_run (s : State) (x : BitVec 1 × BitVec 13 × BitVec 8) : (s.hdmaByte x).run = s.run := rfl
@[simp] theorem hdmaByte_hsnap (s : State) (x : BitVec 1 × BitVec 13 × BitVec 8) : (s.hdmaByte x).hsnap = s.hsnap := rfl
@[simp] theorem hdmaByte_fault (s : State) (x : BitVec 1 × BitVec 13 × BitVec 8) : (s.hdmaByte x).fault = s.fault := rfl
@[simp] theorem hdmaByte_divAcc (s : State) (x : BitVec 1 × BitVec 13 × BitVec 8) : (s.hdmaByte x).divAcc = s.divAcc := rfl
@[simp] theorem hdmaByte_timAcc (s : State) (x : BitVec 1 × BitVec 13 × BitVec 8) : (s.hdmaByte x).timAcc = s.timAcc := rfl
@[simp] theorem hdmaByte_speed (s : State) (x : BitVec 1 × BitVec 13 × BitVec 8) : (s.hdmaByte x).speed = s.speed := rfl
@[simp] theorem hdmaByte_speedPend (s : State) (x : BitVec 1 × BitVec 13 × BitVec 8) : (s.hdmaByte x).speedPend = s.speedPend := rfl
@[simp] theorem hdmaByte_bootOn (s : State) (x : BitVec 1 × BitVec 13 × BitVec 8) : (s.hdmaByte x).bootOn = s.bootOn := rfl
@[simp] theorem hdmaByte_cfg (s : State) (x : BitVec 1 × BitVec 13 × BitVec 8) : (s.hdmaByte x).cfg = s.cfg := rfl
@[simp] theorem hdmaByte_known (s : State) (x : BitVec 1 × BitVec 13 × BitVec 8) : (s.hdmaByte x).known = s.known := rfl
@[simp] theorem hdmaByte_calls (s : State) (x : BitVec 1 × BitVec 13 × BitVec 8) : (s.hdmaByte x).calls = s.calls := rfl
@[simp] theorem hdmaByte_tick (s : State) (x : BitVec 1 × BitVec 13 × BitVec 8) : (s.hdmaByte x).tick = s.tick := rfl
@[simp] theorem hdmaByte_elapsed (s : State) (x : BitVec 1 × BitVec 13 × BitVec 8) : (s.hdmaByte x).elapsed = s.elapsed := rfl
@[simp] theorem hdmaByte_returned (s : State) (x : BitVec 1 × BitVec 13 × BitVec 8) : (s.hdmaByte x).returned = s.returned := rfl

@[simp] theorem requestInterrupt_a (s : State) (k : Fin 5) : (s.requestInterrupt k).a = s.a := rfl
@[simp] theorem requestInterrupt_b (s : State) (k : Fin 5) : (s.requestInterrupt k).b = s.b := rfl
@[simp] theorem requestInterrupt_c (s : State) (k : Fin 5) : (s.requestInterrupt k).c = s.c := rfl
@[simp] theorem requestInterrupt_d (s : State) (k : Fin 5) : (s.requestInterrupt k).d = s.d := rfl
@[simp] theorem requestInterrupt_e (s : State) (k : Fin 5) : (s.requestInterrupt k).e = s.e := rfl
@[simp] theorem requestInterrupt_h (s : State) (k : Fin 5) : (s.requestInterrupt k).h = s.h := rfl
@[simp] theorem requestInterrupt_l (s : State) (k : Fin 5) : (s.requestInterrupt k).l = s.l := rfl
@[simp] theorem requestInterrupt_f (s : State) (k : Fin 5) : (s.requestInterrupt k).f = s.f := rfl
@[simp] theorem requestInterrupt_pc (s : State) (k : Fin 5) : (s.requestInterrupt k).pc = s.pc := rfl
@[simp] theorem requestInterrupt_sp (s : State) (k : Fin 5) : (s.requestInterrupt k).sp = s.sp := rfl
@[simp] theorem requestInterrupt_ime (s : State) (k : Fin 5) : (s.requestInterrupt k).ime = s.ime := rfl
@[simp] theorem requestInterrupt_ie (s : State) (k : Fin 5) : (s.requestInterrupt k).ie = s.ie := rfl
@[simp] theorem requestInterrupt_run (s : State) (k : Fin 5) : (s.requestInterrupt k).run = s.run := rfl
@[simp] theorem requestInterrupt_hsnap (s : State) (k : Fin 5) : (s.requestInterrupt k).hsnap = s.hsnap := rfl
@[simp] theorem requestInterrupt_fault (s : State) (k : Fin 5) : (s.requestInterrupt k).fault = s.fault := rfl
@[simp] theorem requestInterrupt_divAcc (s : State) (k : Fin 5) : (s.requestInterrupt k).divAcc = s.divAcc := rfl
@[simp] theorem requestInterrupt_timAcc (s : State) (k : Fin 5) : (s.requestInterrupt k).timAcc = s.timAcc := rfl
@[simp] theorem requestInterrupt_speed (s : State) (k : Fin 5) : (s.requestInterrupt k).speed = s.speed := rfl
@[simp] theorem requestInterrupt_speedPend (s : State) (k : Fin 5) : (s.requestInterrupt k).speedPend = s.speedPend := rfl
@[simp] theorem requestInterrupt_bootOn (s : State) (k : Fin 5) : (s.requestInterrupt k).bootOn = s.bootOn := rfl
@[simp] theorem requestInterrupt_cfg (s : State) (k : Fin 5) : (s.requestInterrupt k).cfg = s.cfg := rfl
@[simp] theorem requestInterrupt_known (s : State) (k : Fin 5) : (s.requestInterrupt k).known = s.known := rfl
@[simp] theorem requestInterrupt_calls (s : State) (k : Fin 5) : (s.requestInterrupt k).calls = s.calls := rfl
@[simp] theorem requestInterrupt_tick (s : State) (k : Fin 5) : (s.requestInterrupt k).tick = s.tick := rfl
@[simp] theorem requestInterrupt_elapsed (s : State) (k : Fin 5) : (s.requestInterrupt k).elapsed = s.elapsed := rfl
@[simp] theorem requestInterrupt_returned (s : State) (k : Fin 5) : (s.requestInterrupt k).returned = s.returned := rfl

@[simp] theorem dropWord_a (s : State) : (s.dropWord).a = s.a := rfl
@[simp] theorem dropWord_b (s : State) : (s.dropWord).b = s.b := rfl
@[simp] theorem dropWord_c (s : State) : (s.dropWord).c = s.c := rfl
@[simp] theorem dropWord_d (s : State) : (s.dropWord).d = s.d := rfl
@[simp] theorem dropWord_e (s : State) : (s.dropWord).e = s.e := rfl
@[simp] theorem dropWord_h (s : State) : (s.dropWord).h = s.h := rfl
@[simp] theorem dropWord_l (s : State) : (s.dropWord).l = s.l := rfl
@[simp] theorem dropWord_f (s : State) : (s.dropWord).f = s.f := rfl
@[simp] theorem dropWord_pc (s : State) : (s.dropWord).pc = s.pc := rfl
@[simp] theorem dropWord_ime (s : State) : (s.dropWord).ime = s.ime := rfl
@[simp] theorem dropWord_ie (s : State) : (s.dropWord).ie = s.ie := rfl
@[simp] theorem dropWord_run (s : State) : (s.dropWord).run = s.run := rfl
@[simp] theorem dropWord_hsnap (s : State) : (s.dropWord).hsnap = s.hsnap := rfl
@[simp] theorem dropWord_fault (s : State) : (s.dropWord).fault = s.fault := rfl
@[simp] theorem dropWord_divAcc (s : State) : (s.dropWord).divAcc = s.divAcc := rfl
@[simp] theorem dropWord_timAcc (s : State) : (s.dropWord).timAcc = s.timAcc := rfl
@[simp] theorem dropWord_speed (s : State) : (s.dropWord).speed = s.speed := rfl
@[simp] theorem dropWord_speedPend (s : State) : (s.dropWord).speedPend = s.speedPend := rfl
@[simp] theorem dropWord_bootOn (s : State) : (s.dropWord).bootOn = s.bootOn := rfl
@[simp] theorem dropWord_mem (s : State) : (s.dropWord).mem = s.mem := rfl
@[simp] theorem dropWord_cfg (s : State) : (s.dropWord).cfg = s.cfg := rfl
@[simp] theorem dropWord_known (s : State) : (s.dropWord).known = s.known := rfl
@[simp] theorem dropWord_calls (s : State) : (s.dropWord).calls = s.calls := rfl
@[simp] theorem dropWord_tick (s : State) : (s.dropWord).tick = s.tick := rfl
@[simp] theorem dropWord_elapsed (s : State) : (s.dropWord).elapsed = s.elapsed := rfl
@[simp] theorem dropWord_returned (s : State) : (s.dropWord).returned = s.returned := rfl

@[simp] theorem raiseUnimplemented_a (s : State) (v : Byte) : (s.raiseUnimplemented v).a = s.a := rfl
@[simp] theorem raiseUnimplemented_b (s : State) (v : Byte) : (s.raiseUnimplemented v).b = s.b := rfl
@[simp] theorem raiseUnimplemented_c (s : State) (v : Byte) : (s.raiseUnimplemented v).c = s.c := rfl
@[simp] theorem raiseUnimplemented_d (s : State) (v : Byte) : (s.raiseUnimplemented v).d = s.d := rfl
@[simp] theorem raiseUnimplemented_e (s : State) (v : Byte) : (s.raiseUnimplemented v).e = s.e := rfl
@[simp] theorem raiseUnimplemented_h (s : State) (v : Byte) : (s.raiseUnimplemented v).h = s.h := rfl
@[simp] theorem raiseUnimplemented_l (s : State) (v : Byte) : (s.raiseUnimplemented v).l = s.l := rfl
@[simp] theorem raiseUnimplemented_f (s : State) (v : Byte) : (s.raiseUnimplemented v).f = s.f := rfl
@[simp] theorem raiseUnimplemented_pc (s : State) (v : Byte) : (s.raiseUnimplemented v).pc = s.pc := rfl
@[simp] theorem raiseUnimplemented_sp (s : State) (v : Byte) : (s.raiseUnimplemented v).sp = s.sp := rfl
@[simp] theorem raiseUnimplemented_ime (s : State) (v : Byte) : (s.raiseUnimplemented v).ime = s.ime := rfl
@[simp] theorem raiseUnimplemented_ie (s : State) (v : Byte) : (s.raiseUnimplemented v).ie = s.ie := rfl
@[simp] theorem raiseUnimplemented_run (s : State) (v : Byte) : (s.raiseUnimplemented v).run = s.run := rfl
@[simp] theorem raiseUnimplemented_hsnap (s : State) (v : Byte) : (s.raiseUnimplemented v).hsnap = s.hsnap := rfl
@[simp] theorem raiseUnimplemented_divAcc (s : State) (v : Byte) : (s.raiseUnimplemented v).divAcc = s.divAcc := rfl
@[simp] theorem raiseUnimplemented_timAcc (s : State) (v : Byte) : (s.raiseUnimplemented v).timAcc = s.timAcc := rfl
@[simp] theorem raiseUnimplemented_speed (s : State) (v : Byte) : (s.raiseUnimplemented v).speed = s.speed := rfl
@[simp] theorem raiseUnimplemented_speedPend (s : State) (v : Byte) : (s.raiseUnimplemented v).speedPend = s.speedPend := rfl
@[simp] theorem raiseUnimplemented_bootOn (s : State) (v : Byte) : (s.raiseUnimplemented v).bootOn = s.bootOn := rfl
@[simp] theorem raiseUnimplemented_mem (s : State) (v : Byte) : (s.raiseUnimplemented v).mem = s.mem := rfl
@[simp] theorem raiseUnimplemented_cfg (s : State) (v : Byte) : (s.raiseUnimplemented v).cfg = s.cfg := rfl
@[simp] theorem raiseUnimplemented_known (s : State) (v : Byte) : (s.raiseUnimplemented v).known = s.known := rfl
@[simp] theorem raiseUnimplemented_calls (s : State) (v : Byte) : (s.raiseUnimplemented v).calls = s.calls := rfl
@[simp] theorem raiseUnimplemented_tick (s : State) (v : Byte) : (s.raiseUnimplemented v).tick = s.tick := rfl
@[simp] theorem raiseUnimplemented_elapsed (s : State) (v : Byte) : (s.raiseUnimplemented v).elapsed = s.elapsed := rfl
@[simp] theorem raiseUnimplemented_returned (s : State) (v : Byte) : (s.raiseUnimplemented v).returned = s.returned := rfl

@[simp] theorem setFlags_a (s : State) (x : Flags) : (s.setFlags x).a = s.a := rfl
@[simp] theorem setFlags_b (s : State) (x : Flags) : (s.setFlags x).b = s.b := rfl
@[simp] theorem setFlags_c (s : State) (x : Flags) : (s.setFlags x).c = s.c := rfl
@[simp] theorem setFlags_d (s : State) (x : Flags) : (s.setFlags x).d = s.d := rfl
@[simp] theorem setFlags_e (s : State) (x : Flags) : (s.setFlags x).e = s.e := rfl
@[simp] theorem setFlags_h (s : State) (x : Flags) : (s.setFlags x).h = s.h := rfl
@[simp] theorem setFlags_l (s : State) (x : Flags) : (s.setFlags x).l = s.l := rfl
@[simp] theorem setFlags_pc (s : State) (x : Flags) : (s.setFlags x).pc = s.pc := rfl
@[simp] theorem setFlags_sp (s : State) (x : Flags) : (s.setFlags x).sp = s.sp := rfl
@[simp] theorem setFlags_ime (s : State) (x : Flags) : (s.setFlags x).ime = s.ime := rfl
@[simp] theorem setFlags_ie (s : State) (x : Flags) : (s.setFlags x).ie = s.ie := rfl
@[simp] theorem setFlags_run (s : State) (x : Flags) : (s.setFlags x).run = s.run := rfl
@[simp] theorem setFlags_hsnap (s : State) (x : Flags) : (s.setFlags x).hsnap = s.hsnap := rfl
@[simp] theorem setFlags_fault (s : State) (x : Flags) : (s.setFlags x).fault = s.fault := rfl
@[simp] theorem setFlags_divAcc (s : State) (x : Flags) : (s.setFlags x).divAcc = s.divAcc := rfl
@[simp] theorem setFlags_timAcc (s : State) (x : Flags) : (s.setFlags x).timAcc = s.timAcc := rfl
@[simp] theorem setFlags_speed (s : State) (x : Flags) : (s.setFlags x).speed = s.speed := rfl
@[simp] theorem setFlags_speedPend (s : State) (x : Flags) : (s.setFlags x).speedPend = s.speedPend := rfl
@[simp] theorem setFlags_bootOn (s : State) (x : Flags) : (s.setFlags x).bootOn = s.bootOn := rfl
@[simp] theorem setFlags_mem (s : State) (x : Flags) : (s.setFlags x).mem = s.mem := rfl
@[simp] theorem setFlags_cfg (s : State) (x : Flags) : (s.setFlags x).cfg = s.cfg := rfl
@[simp] theorem setFlags_known (s : State) (x : Flags) : (s.setFlags x).known = s.known := rfl
@[simp] theorem setFlags_calls (s : State) (x : Flags) : (s.setFlags x).calls = s.calls := rfl
@[simp] theorem setFlags_tick (s : State) (x : Flags) : (s.setFlags x).tick = s.tick := rfl
@[simp] theorem setFlags_elapsed (s : State) (x : Flags) : (s.setFlags x).elapsed = s.elapsed := rfl
@[simp] theorem setFlags_returned (s : State) (x : Flags) : (s.setFlags x).returned = s.returned := rfl

@[simp] theorem addCycles_a (s : State) (n : Nat) : (s.addCycles n).a = s.a := rfl
@[simp] theorem addCycles_b (s : State) (n : Nat) : (s.addCycles n).b = s.b := rfl
@[simp] theorem addCycles_c (s : State) (n : Nat) : (s.addCycles n).c = s.c := rfl
@[simp] theorem addCycles_d (s : State) (n : Nat) : (s.addCycles n).d = s.d := rfl
@[simp] theorem addCycles_e (s : State) (n : Nat) : (s.addCycles n).e = s.e := rfl
@[simp] theorem addCycles_h (s : State) (n : Nat) : (s.addCycles n).h = s.h := rfl
@[simp] theorem addCycles_l (s : State) (n : Nat) : (s.addCycles n).l = s.l := rfl
@[simp] theorem addCycles_f (s : State) (n : Nat) : (s.addCycles n).f = s.f := rfl
@[simp] theorem addCycles_pc (s : State) (n : Nat) : (s.addCycles n).pc = s.pc := rfl
@[simp] theorem addCycles_sp (s : State) (n : Nat) : (s.addCycles n).sp = s.sp := rfl
@[simp] theorem addCycles_ime (s : State) (n : Nat) : (s.addCycles n).ime = s.ime := rfl
@[simp] theorem addCycles_ie (s : State) (n : Nat) : (s.addCycles n).ie = s.ie := rfl
@[simp] theorem addCycles_run (s : State) (n : Nat) : (s.addCycles n).run = s.run := rfl
@[simp] theorem addCycles_hsnap (s : State) (n : Nat) : (s.addCycles n).hsnap = s.hsnap := rfl
@[simp] theorem addCycles_fault (s : State) (n : Nat) : (s.addCycles n).fault = s.fault := rfl
@[simp] theorem addCycles_divAcc (s : State) (n : Nat) : (s.addCycles n).divAcc = s.divAcc := rfl
@[simp] theorem addCycles_timAcc (s : State) (n : Nat) : (s.addCycles n).timAcc = s.timAcc := rfl
@[simp] theorem addCycles_speed (s : State) (n : Nat) : (s.addCycles n).speed = s.speed := rfl
@[simp] theorem addCycles_speedPend (s : State) (n : Nat) : (s.addCycles n).speedPend = s.speedPend := rfl
@[simp] theorem addCycles_bootOn (s : State) (n : Nat) : (s.addCycles n).bootOn = s.bootOn := rfl
@[simp] theorem addCycles_mem (s : State) (n : Nat) : (s.addCycles n).mem = s.mem := rfl
@[simp] theorem addCycles_cfg (s : State) (n : Nat) : (s.addCycles n).cfg = s.cfg := rfl
@[simp] theorem addCycles_known (s : State) (n : Nat) : (s.addCycles n).known = s.known := rfl
@[simp] theorem addCycles_calls (s : State) (n : Nat) : (s.addCycles n).calls = s.calls := rfl
@[simp] theorem addCycles_tick (s : State) (n : Nat) : (s.addCycles n).tick = s.tick := rfl
@[simp] theorem addCycles_returned (s : State) (n : Nat) : (s.addCycles n).returned = s.returned := rfl

@[simp] theorem spend_a (s : State) (op : Nat) (y : Bool) : (s.spend op y).a = s.a := rfl
@[simp] theorem spend_b (s : State) (op : Nat) (y : Bool) : (s.spend op y).b = s.b := rfl
@[simp] theorem spend_c (s : State) (op : Nat) (y : Bool) : (s.spend op y).c = s.c := rfl
@[simp] theorem spend_d (s : State) (op : Nat) (y : Bool) : (s.spend op y).d = s.d := rfl
@[simp] theorem spend_e (s : State) (op : Nat) (y : Bool) : (s.spend op y).e = s.e := rfl
@[simp] theorem spend_h (s : State) (op : Nat) (y : Bool) : (s.spend op y).h = s.h := rfl
@[simp] theorem spend_l (s : State) (op : Nat) (y : Bool) : (s.spend op y).l = s.l := rfl
@[simp] theorem spend_f (s : State) (op : Nat) (y : Bool) : (s.spend op y).f = s.f := rfl
@[simp] theorem spend_pc (s : State) (op : Nat) (y : Bool) : (s.spend op y).pc = s.pc := rfl
@[simp] theorem spend_sp (s : State) (op : Nat) (y : Bool) : (s.spend op y).sp = s.sp := rfl
@[simp] theorem spend_ime (s : State) (op : Nat) (y : Bool) : (s.spend op y).ime = s.ime := rfl
@[simp] theorem spend_ie (s : State) (op : Nat) (y : Bool) : (s.spend op y).ie = s.ie := rfl
@[simp] theorem spend_run (s : State) (op : Nat) (y : Bool) : (s.spend op y).run = s.run := rfl
@[simp] theorem spend_hsnap (s : State) (op : Nat) (y : Bool) : (s.spend op y).hsnap = s.hsnap := rfl
@[simp] theorem spend_fault (s : State) (op : Nat) (y : Bool) : (s.spend op y).fault = s.fault := rfl
@[simp] theorem spend_divAcc (s : State) (op : Nat) (y : Bool) : (s.spend op y).divAcc = s.divAcc := rfl
@[simp] theorem spend_timAcc (s : State) (op : Nat) (y : Bool) : (s.spend op y).timAcc = s.timAcc := rfl
@[simp] theorem spend_speed (s : State) (op : Nat) (y : Bool) : (s.spend op y).speed = s.speed := rfl
@[simp] theorem spend_speedPend (s : State) (op : Nat) (y : Bool) : (s.spend op y).speedPend = s.speedPend := rfl
@[simp] theorem spend_bootOn (s : State) (op : Nat) (y : Bool) : (s.spend op y).bootOn = s.bootOn := rfl
@[simp] theorem spend_mem (s : State) (op : Nat) (y : Bool) : (s.spend op y).mem = s.mem := rfl
@[simp] theorem spend_cfg (s : State) (op : Nat) (y : Bool) : (s.spend op y).cfg = s.cfg := rfl
@[simp] theorem spend_known (s : State) (op : Nat) (y : Bool) : (s.spend op y).known = s.known := rfl
@[simp] theorem spend_calls (s : State) (op : Nat) (y : Bool) : (s.spend op y).calls = s.calls := rfl
@[simp] theorem spend_tick (s : State) (op : Nat) (y : Bool) : (s.spend op y).tick = s.tick := rfl
@[simp] theorem spend_returned (s : State) (op : Nat) (y : Bool) : (s.spend op y).returned = s.returned := rfl

@[simp] theorem setReg_f (s : State) (r : Reg8) (v : Byte) : (s.setReg r v).f = s.f := by cases r <;> rfl
@[simp] theorem setReg_pc (s : State) (r : Reg8) (v : Byte) : (s.setReg r v).pc = s.pc := by cases r <;> rfl
@[simp] theorem setReg_sp (s : State) (r : Reg8) (v : Byte) : (s.setReg r v).sp = s.sp := by cases r <;> rfl
@[simp] theorem setReg_ime (s : State) (r : Reg8) (v : Byte) : (s.setReg r v).ime = s.ime := by cases r <;> rfl
@[simp] theorem setReg_ie (s : State) (r : Reg8) (v : Byte) : (s.setReg r v).ie = s.ie := by cases r <;> rfl
@[simp] theorem setReg_run (s : State) (r : Reg8) (v : Byte) : (s.setReg r v).run = s.run := by cases r <;> rfl
@[simp] theorem setReg_hsnap (s : State) (r : Reg8) (v : Byte) : (s.setReg r v).hsnap = s.hsnap := by cases r <;> rfl
@[simp] theorem setReg_fault (s : State) (r : Reg8) (v : Byte) : (s.setReg r v).fault = s.fault := by cases r <;> rfl
@[simp] theorem setReg_divAcc (s : State) (r : Reg8) (v : Byte) : (s.setReg r v).divAcc = s.divAcc := by cases r <;> rfl
@[simp] theorem setReg_timAcc (s : State) (r : Reg8) (v : Byte) : (s.setReg r v).timAcc = s.timAcc := by cases r <;> rfl
@[simp] theorem setReg_speed (s : State) (r : Reg8) (v : Byte) : (s.setReg r v).speed = s.speed := by cases r <;> rfl
@[simp] theorem setReg_speedPend (s : State) (r : Reg8) (v : Byte) : (s.setReg r v).speedPend = s.speedPend := by cases r <;> rfl
@[simp] theorem setReg_bootOn (s : State) (r : Reg8) (v : Byte) : (s.setReg r v).bootOn = s.bootOn := by cases r <;> rfl
@[simp] theorem setReg_mem (s : State) (r : Reg8) (v : Byte) : (s.setReg r v).mem = s.mem := by cases r <;> rfl
@[simp] theorem setReg_cfg (s : State) (r : Reg8) (v : Byte) : (s.setReg r v).cfg = s.cfg := by cases r <;> rfl
@[simp] theorem setReg_known (s : State) (r : Reg8) (v : Byte) : (s.setReg r v).known = s.known := by cases r <;> rfl
@[simp] theorem setReg_calls (s : State) (r : Reg8) (v : Byte) : (s.setReg r v).calls = s.calls := by cases r <;> rfl
@[simp] theorem setReg_tick (s : State) (r : Reg8) (v : Byte) : (s.setReg r v).tick = s.tick := by cases r <;> rfl
@[simp] theorem setReg_elapsed (s : State) (r : Reg8) (v : Byte) : (s.setReg r v).elapsed = s.elapsed := by cases r <;> rfl
@[simp] theorem setReg_returned (s : State) (r : Reg8) (v : Byte) : (s.setReg r v).returned = s.returned := by cases r <;> rfl

@[simp] theorem setPair_a (s : State) (p : Pair) (w : Word) : (s.setPair p w).a = s.a := by cases p <;> rfl
@[simp] theorem setPair_f (s : State) (p : Pair) (w : Word) : (s.setPair p w).f = s.f := by cases p <;> rfl
@[simp] theorem setPair_pc (s : State) (p : Pair) (w : Word) : (s.setPair p w).pc = s.pc := by cases p <;> rfl
@[simp] theorem setPair_ime (s : State) (p : Pair) (w : Word) : (s.setPair p w).ime = s.ime := by cases p <;> rfl
@[simp] theorem setPair_ie (s : State) (p : Pair) (w : Word) : (s.setPair p w).ie = s.ie := by cases p <;> rfl
@[simp] theorem setPair_run (s : State) (p : Pair) (w : Word) : (s.setPair p w).run = s.run := by cases p <;> rfl
@[simp] theorem setPair_hsnap (s : State) (p : Pair) (w : Word) : (s.setPair p w).hsnap = s.hsnap := by cases p <;> rfl
@[simp] theorem setPair_fault (s : State) (p : Pair) (w : Word) : (s.setPair p w).fault = s.fault := by cases p <;> rfl
@[simp] theorem setPair_divAcc (s : State) (p : Pair) (w : Word) : (s.setPair p w).divAcc = s.divAcc := by cases p <;> rfl
@[simp] theorem setPair_timAcc (s : State) (p : Pair) (w : Word) : (s.setPair p w).timAcc = s.timAcc := by cases p <;> rfl
@[simp] theorem setPair_speed (s : State) (p : Pair) (w : Word) : (s.setPair p w).speed = s.speed := by cases p <;> rfl
@[simp] theorem setPair_speedPend (s : State) (p : Pair) (w : Word) : (s.setPair p w).speedPend = s.speedPend := by cases p <;> rfl
@[simp] theorem setPair_bootOn (s : State) (p : Pair) (w : Word) : (s.setPair p w).bootOn = s.bootOn := by cases p <;> rfl
@[simp] theorem setPair_mem (s : State) (p : Pair) (w : Word) : (s.setPair p w).mem = s.mem := by cases p <;> rfl
@[simp] theorem setPair_cfg (s : State) (p : Pair) (w : Word) : (s.setPair p w).cfg = s.cfg := by cases p <;> rfl
@[simp] theorem setPair_known (s : State) (p : Pair) (w : Word) : (s.setPair p w).known = s.known := by cases p <;> rfl
@[simp] theorem setPair_calls (s : State) (p : Pair) (w : Word) : (s.setPair p w).calls = s.calls := by cases p <;> rfl
@[simp] theorem setPair_tick (s : State) (p : Pair) (w : Word) : (s.setPair p w).tick = s.tick := by cases p <;> rfl
@[simp] theorem setPair_elapsed (s : State) (p : Pair) (w : Word) : (s.setPair p w).elapsed = s.elapsed := by cases p <;> rfl
@[simp] theorem setPair_returned (s : State) (p : Pair) (w : Word) : (s.setPair p w).returned = s.returned := by cases p <;> rfl

@[simp] theorem setStackPair_pc (s : State) (p : StackPair) (w : Word) : (s.setStackPair p w).pc = s.pc := by cases p <;> rfl
@[simp] theorem setStackPair_sp (s : State) (p : StackPair) (w : Word) : (s.setStackPair p w).sp = s.sp := by cases p <;> rfl
@[simp] theorem setStackPair_ime (s : State) (p : StackPair) (w : Word) : (s.setStackPair p w).ime = s.ime := by cases p <;> rfl
@[simp] theorem setStackPair_ie (s : State) (p : StackPair) (w : Word) : (s.setStackPair p w).ie = s.ie := by cases p <;> rfl
@[simp] theorem setStackPair_run (s : State) (p : StackPair) (w : Word) : (s.setStackPair p w).run = s.run := by cases p <;> rfl
@[simp] theorem setStackPair_hsnap (s : State) (p : StackPair) (w : Word) : (s.setStackPair p w).hsnap = s.hsnap := by cases p <;> rfl
@[simp] theorem setStackPair_fault (s : State) (p : StackPair) (w : Word) : (s.setStackPair p w).fault = s.fault := by cases p <;> rfl
@[simp] theorem setStackPair_divAcc (s : State) (p : StackPair) (w : Word) : (s.setStackPair p w).divAcc = s.divAcc := by cases p <;> rfl
@[simp] theorem setStackPair_timAcc (s : State) (p : StackPair) (w : Word) : (s.setStackPair p w).timAcc = s.timAcc := by cases p <;> rfl
@[simp] theorem setStackPair_speed (s : State) (p : StackPair) (w : Word) : (s.setStackPair p w).speed = s.speed := by cases p <;> rfl
@[simp] theorem setStackPair_speedPend (s : State) (p : StackPair) (w : Word) : (s.setStackPair p w).speedPend = s.speedPend := by cases p <;> rfl
@[simp] theorem setStackPair_bootOn (s : State) (p : StackPair) (w : Word) : (s.setStackPair p w).bootOn = s.bootOn := by cases p <;> rfl
@[simp] theorem setStackPair_mem (s : State) (p : StackPair) (w : Word) : (s.setStackPair p w).mem = s.mem := by cases p <;> rfl
@[simp] theorem setStackPair_cfg (s : State) (p : StackPair) (w : Word) : (s.setStackPair p w).cfg = s.cfg := by cases p <;> rfl
@[simp] theorem setStackPair_known (s : State) (p : StackPair) (w : Word) : (s.setStackPair p w).known = s.known := by cases p <;> rfl
@[simp] theorem setStackPair_calls (s : State) (p : StackPair) (w : Word) : (s.setStackPair p w).calls = s.calls := by cases p <;> rfl
@[simp] theorem setStackPair_tick (s : State) (p : StackPair) (w : Word) : (s.setStackPair p w).tick = s.tick := by cases p <;> rfl
@[simp] theorem setStackPair_elapsed (s : State) (p : StackPair) (w : Word) : (s.setStackPair p w).elapsed = s.elapsed := by cases p <;> rfl
@[simp] theorem setStackPair_returned (s : State) (p : StackPair) (w : Word) : (s.setStackPair p w).returned = s.returned := by cases p <;> rfl

@[simp] theorem memWrite_a (s : State) (x : Word) (v : Byte) : (s.memWrite x v).a = s.a := (congrArg State.a (memWrite_eq s x v)).trans rfl
@[simp] theorem memWrite_b (s : State) (x : Word) (v : Byte) : (s.memWrite x v).b = s.b := (congrArg State.b (memWrite_eq s x v)).trans rfl
@[simp] theorem memWrite_c (s : State) (x : Word) (v : Byte) : (s.memWrite x v).c = s.c := (congrArg State.c (memWrite_eq s x v)).trans rfl
@[simp] theorem memWrite_d (s : State) (x : Word) (v : Byte) : (s.memWrite x v).d = s.d := (congrArg State.d (memWrite_eq s x v)).trans rfl
@[simp] theorem memWrite_e (s : State) (x : Word) (v : Byte) : (s.memWrite x v).e = s.e := (congrArg State.e (memWrite_eq s x v)).trans rfl
@[simp] theorem memWrite_h (s : State) (x : Word) (v : Byte) : (s.memWrite x v).h = s.h := (congrArg State.h (memWrite_eq s x v)).trans rfl
@[simp] theorem memWrite_l (s : State) (x : Word) (v : Byte) : (s.memWrite x v).l = s.l := (congrArg State.l (memWrite_eq s x v)).trans rfl
@[simp] theorem memWrite_f (s : State) (x : Word) (v : Byte) : (s.memWrite x v).f = s.f := (congrArg State.f (memWrite_eq s x v)).trans rfl
@[simp] theorem memWrite_pc (s : State) (x : Word) (v : Byte) : (s.memWrite x v).pc = s.pc := (congrArg State.pc (memWrite_eq s x v)).trans rfl
@[simp] theorem memWrite_sp (s : State) (x : Word) (v : Byte) : (s.memWrite x v).sp = s.sp := (congrArg State.sp (memWrite_eq s x v)).trans rfl
@[simp] theorem memWrite_ime (s : State) (x : Word) (v : Byte) : (s.memWrite x v).ime = s.ime := (congrArg State.ime (memWrite_eq s x v)).trans rfl
@[simp] theorem memWrite_run (s : State) (x : Word) (v : Byte) : (s.memWrite x v).run = s.run := (congrArg State.run (memWrite_eq s x v)).trans rfl
@[simp] theorem memWrite_hsnap (s : State) (x : Word) (v : Byte) : (s.memWrite x v).hsnap = s.hsnap := (congrArg State.hsnap (memWrite_eq s x v)).trans rfl
@[simp] theorem memWrite_fault (s : State) (x : Word) (v : Byte) : (s.memWrite x v).fault = s.fault := (congrArg State.fault (memWrite_eq s x v)).trans rfl
@[simp] theorem memWrite_divAcc (s : State) (x : Word) (v : Byte) : (s.memWrite x v).divAcc = s.divAcc := (congrArg State.divAcc (memWrite_eq s x v)).trans rfl
@[simp] theorem memWrite_timAcc (s : State) (x : Word) (v : Byte) : (s.memWrite x v).timAcc = s.timAcc := (congrArg State.timAcc (memWrite_eq s x v)).trans rfl
@[simp] theorem memWrite_speed (s : State) (x : Word) (v : Byte) : (s.memWrite x v).speed = s.speed := (congrArg State.speed (memWrite_eq s x v)).trans rfl
@[simp] theorem memWrite_speedPend (s : State) (x : Word) (v : Byte) : (s.memWrite x v).speedPend = s.speedPend := (congrArg State.speedPend (memWrite_eq s x v)).trans rfl
@[simp] theorem memWrite_cfg (s : State) (x : Word) (v : Byte) : (s.memWrite x v).cfg = s.cfg := (congrArg State.cfg (memWrite_eq s x v)).trans rfl
@[simp] theorem memWrite_tick (s : State) (x : Word) (v : Byte) : (s.memWrite x v).tick = s.tick := (congrArg State.tick (memWrite_eq s x v)).trans rfl
@[simp] theorem memWrite_elapsed (s : State) (x : Word) (v : Byte) : (s.memWrite x v).elapsed = s.elapsed := (congrArg State.elapsed (memWrite_eq s x v)).trans rfl
@[simp] theorem memWrite_returned (s : State) (x : Word) (v : Byte) : (s.memWrite x v).returned = s.returned := (congrArg State.returned (memWrite_eq s x v)).trans rfl

@[simp] theorem memWrite16_a (s : State) (x w : Word) : (s.memWrite16 x w).a = s.a := (congrArg State.a (memWrite16_eq s x w)).trans rfl
@[simp] theorem memWrite16_b (s : State) (x w : Word) : (s.memWrite16 x w).b = s.b := (congrArg State.b (memWrite16_eq s x w)).trans rfl
@[simp] theorem memWrite16_c (s : State) (x w : Word) : (s.memWrite16 x w).c = s.c := (congrArg State.c (memWrite16_eq s x w)).trans rfl
@[simp] theorem memWrite16_d (s : State) (x w : Word) : (s.memWrite16 x w).d = s.d := (congrArg State.d (memWrite16_eq s x w)).trans rfl
@[simp] theorem memWrite16_e (s : State) (x w : Word) : (s.memWrite16 x w).e = s.e := (congrArg State.e (memWrite16_eq s x w)).trans rfl
@[simp] theorem memWrite16_h (s : State) (x w : Word) : (s.memWrite16 x w).h = s.h := (congrArg State.h (memWrite16_eq s x w)).trans rfl
@[simp] theorem memWrite16_l (s : State) (x w : Word) : (s.memWrite16 x w).l = s.l := (congrArg State.l (memWrite16_eq s x w)).trans rfl
@[simp] theorem memWrite16_f (s : State) (x w : Word) : (s.memWrite16 x w).f = s.f := (congrArg State.f (memWrite16_eq s x w)).trans rfl
@[simp] theorem memWrite16_pc (s : State) (x w : Word) : (s.memWrite16 x w).pc = s.pc := (congrArg State.pc (memWrite16_eq s x w)).trans rfl
@[simp] theorem memWrite16_sp (s : State) (x w : Word) : (s.memWrite16 x w).sp = s.sp := (congrArg State.sp (memWrite16_eq s x w)).trans rfl
@[simp] theorem memWrite16_ime (s : State) (x w : Word) : (s.memWrite16 x w).ime = s.ime := (congrArg State.ime (memWrite16_eq s x w)).trans rfl
@[simp] theorem memWrite16_run (s : State) (x w : Word) : (s.memWrite16 x w).run = s.run := (congrArg State.run (memWrite16_eq s x w)).trans rfl
@[simp] theorem memWrite16_hsnap (s : State) (x w : Word) : (s.memWrite16 x w).hsnap = s.hsnap := (congrArg State.hsnap (memWrite16_eq s x w)).trans rfl
@[simp] theorem memWrite16_fault (s : State) (x w : Word) : (s.memWrite16 x w).fault = s.fault := (congrArg State.fault (memWrite16_eq s x w)).trans rfl
@[simp] theorem memWrite16_divAcc (s : State) (x w : Word) : (s.memWrite16 x w).divAcc = s.divAcc := (congrArg State.divAcc (memWrite16_eq s x w)).trans rfl
@[simp] theorem memWrite16_timAcc (s : State) (x w : Word) : (s.memWrite16 x w).timAcc = s.timAcc := (congrArg State.timAcc (memWrite16_eq s x w)).trans rfl
@[simp] theorem memWrite16_speed (s : State) (x w : Word) : (s.memWrite16 x w).speed = s.speed := (congrArg State.speed (memWrite16_eq s x w)).trans rfl
@[simp] theorem memWrite16_speedPend (s : State) (x w : Word) : (s.memWrite16 x w).speedPend = s.speedPend := (congrArg State.speedPend (memWrite16_eq s x w)).trans rfl
@[simp] theorem memWrite16_cfg (s : State) (x w : Word) : (s.memWrite16 x w).cfg = s.cfg := (congrArg State.cfg (memWrite16_eq s x w)).trans rfl
@[simp] theorem memWrite16_tick (s : State) (x w : Word) : (s.memWrite16 x w).tick = s.tick := (congrArg State.tick (memWrite16_eq s x w)).trans rfl
@[simp] theorem memWrite16_elapsed (s : State) (x w : Word) : (s.memWrite16 x w).elapsed = s.elapsed := (congrArg State.elapsed (memWrite16_eq s x w)).trans rfl
@[simp] theorem memWrite16_returned (s : State) (x w : Word) : (s.memWrite16 x w).returned = s.returned := (congrArg State.returned (memWrite16_eq s x w)).trans rfl

@[simp] theorem push16_a (s : State) (w : Word) : (s.push16 w).a = s.a := (congrArg State.a (push16_eq s w)).trans rfl
@[simp] theorem push16_b (s : State) (w : Word) : (s.push16 w).b = s.b := (congrArg State.b (push16_eq s w)).trans rfl
@[simp] theorem push16_c (s : State) (w : Word) : (s.push16 w).c = s.c := (congrArg State.c (push16_eq s w)).trans rfl
@[simp] theorem push16_d (s : State) (w : Word) : (s.push16 w).d = s.d := (congrArg State.d (push16_eq s w)).trans rfl
@[simp] theorem push16_e (s : State) (w : Word) : (s.push16 w).e = s.e := (congrArg State.e (push16_eq s w)).trans rfl
@[simp] theorem push16_h (s : State) (w : Word) : (s.push16 w).h = s.h := (congrArg State.h (push16_eq s w)).trans rfl
@[simp] theorem push16_l (s : State) (w : Word) : (s.push16 w).l = s.l := (congrArg State.l (push16_eq s w)).trans rfl
@[simp] theorem push16_f (s : State) (w : Word) : (s.push16 w).f = s.f := (congrArg State.f (push16_eq s w)).trans rfl
@[simp] theorem push16_pc (s : State) (w : Word) : (s.push16 w).pc = s.pc := (congrArg State.pc (push16_eq s w)).trans rfl
@[simp] theorem push16_ime (s : State) (w : Word) : (s.push16 w).ime = s.ime := (congrArg State.ime (push16_eq s w)).trans rfl
@[simp] theorem push16_run (s : State) (w : Word) : (s.push16 w).run = s.run := (congrArg State.run (push16_eq s w)).trans rfl
@[simp] theorem push16_hsnap (s : State) (w : Word) : (s.push16 w).hsnap = s.hsnap := (congrArg State.hsnap (push16_eq s w)).trans rfl
@[simp] theorem push16_fault (s : State) (w : Word) : (s.push16 w).fault = s.fault := (congrArg State.fault (push16_eq s w)).trans rfl
@[simp] theorem push16_divAcc (s : State) (w : Word) : (s.push16 w).divAcc = s.divAcc := (congrArg State.divAcc (push16_eq s w)).trans rfl
@[simp] theorem push16_timAcc (s : State) (w : Word) : (s.push16 w).timAcc = s.timAcc := (congrArg State.timAcc (push16_eq s w)).trans rfl
@[simp] theorem push16_speed (s : State) (w : Word) : (s.push16 w).speed = s.speed := (congrArg State.speed (push16_eq s w)).trans rfl
@[simp] theorem push16_speedPend (s : State) (w : Word) : (s.push16 w).speedPend = s.speedPend := (congrArg State.speedPend (push16_eq s w)).trans rfl
@[simp] theorem push16_cfg (s : State) (w : Word) : (s.push16 w).cfg = s.cfg := (congrArg State.cfg (push16_eq s w)).trans rfl
@[simp] theorem push16_tick (s : State) (w : Word) : (s.push16 w).tick = s.tick := (congrArg State.tick (push16_eq s w)).trans rfl
@[simp] theorem push16_elapsed (s : State) (w : Word) : (s.push16 w).elapsed = s.elapsed := (congrArg State.elapsed (push16_eq s w)).trans rfl
@[simp] theorem push16_returned (s : State) (w : Word) : (s.push16 w).returned = s.returned := (congrArg State.returned (push16_eq s w)).trans rfl

@[simp] theorem placeStep_a (s : State) (p : Place) : (s.placeStep p).a = s.a := by cases p <;> rfl
@[simp] theorem placeStep_b (s : State) (p : Place) : (s.placeStep p).b = s.b := by cases p <;> rfl
@[simp] theorem placeStep_c (s : State) (p : Place) : (s.placeStep p).c = s.c := by cases p <;> rfl
@[simp] theorem placeStep_d (s : State) (p : Place) : (s.placeStep p).d = s.d := by cases p <;> rfl
@[simp] theorem placeStep_e (s : State) (p : Place) : (s.placeStep p).e = s.e := by cases p <;> rfl
@[simp] theorem placeStep_f (s : State) (p : Place) : (s.placeStep p).f = s.f := by cases p <;> rfl
@[simp] theorem placeStep_pc (s : State) (p : Place) : (s.placeStep p).pc = s.pc := by cases p <;> rfl
@[simp] theorem placeStep_sp (s : State) (p : Place) : (s.placeStep p).sp = s.sp := by cases p <;> rfl
@[simp] theorem placeStep_ime (s : State) (p : Place) : (s.placeStep p).ime = s.ime := by cases p <;> rfl
@[simp] theorem placeStep_ie (s : State) (p : Place) : (s.placeStep p).ie = s.ie := by cases p <;> rfl
@[simp] theorem placeStep_run (s : State) (p : Place) : (s.placeStep p).run = s.run := by cases p <;> rfl
@[simp] theorem placeStep_hsnap (s : State) (p : Place) : (s.placeStep p).hsnap = s.hsnap := by cases p <;> rfl
@[simp] theorem placeStep_fault (s : State) (p : Place) : (s.placeStep p).fault = s.fault := by cases p <;> rfl
@[simp] theorem placeStep_divAcc (s : State) (p : Place) : (s.placeStep p).divAcc = s.divAcc := by cases p <;> rfl
@[simp] theorem placeStep_timAcc (s : State) (p : Place) : (s.placeStep p).timAcc = s.timAcc := by cases p <;> rfl
@[simp] theorem placeStep_speed (s : State) (p : Place) : (s.placeStep p).speed = s.speed := by cases p <;> rfl
@[simp] theorem placeStep_speedPend (s : State) (p : Place) : (s.placeStep p).speedPend = s.speedPend := by cases p <;> rfl
@[simp] theorem placeStep_bootOn (s : State) (p : Place) : (s.placeStep p).bootOn = s.bootOn := by cases p <;> rfl
@[simp] theorem placeStep_mem (s : State) (p : Place) : (s.placeStep p).mem = s.mem := by cases p <;> rfl
@[simp] theorem placeStep_cfg (s : State) (p : Place) : (s.placeStep p).cfg = s.cfg := by cases p <;> rfl
@[simp] theorem placeStep_known (s : State) (p : Place) : (s.placeStep p).known = s.known := by cases p <;> rfl
@[simp] theorem placeStep_calls (s : State) (p : Place) : (s.placeStep p).calls = s.calls := by cases p <;> rfl
@[simp] theorem placeStep_tick (s : State) (p : Place) : (s.placeStep p).tick = s.tick := by cases p <;> rfl
@[simp] theorem placeStep_elapsed (s : State) (p : Place) : (s.placeStep p).elapsed = s.elapsed := by cases p <;> rfl
@[simp] theorem placeStep_returned (s : State) (p : Place) : (s.placeStep p).returned = s.returned := by cases p <;> rfl

end Sys2Proof.Machine
end

