-- ==== Sys2Proof/Laws/Exec.lean ====
section
/-!
SUPPORT. One equation for the whole dispatcher: executing an instruction is running its shape at its opcode. A
statement about every instruction of a shape follows from it without a case split over 512 constructors.
-/

namespace Sys2Proof.Machine

/-- The bytes an instruction of a shape occupies (30_encoding.md R151). -/
def formLength (x : Form) : Nat := (opcodeBytes x.opcode ++ x.immediates).length

/-- What an instruction of a shape does, `op` being its opcode. -/
def run (x : Form) (op : Nat) (s : State) : Result :=
  match x with
  | .nop => done op (s.advance 1)
  | .halt => done op (haltOp s)
  | .stop => done op (stopOp s)
  | .di => done op (setIme false s)
  | .ei => done op (setIme true s)
  | .ldRegReg dst src => done op (ldRegReg dst src s)
  | .ldRegImm dst n => done op (ldRegImm dst n s)
  | .ldRegMem dst => done op (ldRegMem dst s)
  | .ldMemReg r => done op (ldMemReg r s)
  | .ldMemImm n => done op (ldMemImm n s)
  | .ldA p => done op (ldA p (formLength (.ldA p)) s)
  | .stA p => done op (stA p (formLength (.stA p)) s)
  | .ldPairImm p w => done op (ldPairImm p w s)
  | .ldAbsSp w => done op (ldAbsSp w s)
  | .ldSpHl => done op (ldSpHl s)
  | .ldHlSp e => done op (ldHlSp e s)
  | .push p => done op (pushPair p s)
  | .pop p => done op (popPair p s)
  | .alu o y => done op (alu o y (formLength (.alu o y)) s)
  | .incReg r => done op (incReg r s)
  | .decReg r => done op (decReg r s)
  | .incMem => done op (incMem s)
  | .decMem => done op (decMem s)
  | .daa => done op (daa s)
  | .cpl => done op (cpl s)
  | .scf => done op (scf s)
  | .ccf => done op (ccf s)
  | .incPair p => done op (incPair p s)
  | .decPair p => done op (decPair p s)
  | .addHl p => done op (addHl p s)
  | .addSp e => done op (addSp e s)
  | .accRot o => done op (accRotate o s)
  | .rot o t => done op (rotTarget o t s)
  | .bit k t => done op (bitTarget k t s)
  | .res k t => done op (resTarget k t s)
  | .set k t => done op (setTargetBit k t s)
  | .jp w => done op (jp w s)
  | .jpCond cc w => jpCond op cc w s
  | .jpHl => done op (jpHl s)
  | .jr e => done op (jr e s)
  | .jrCond cc e => jrCond op cc e s
  | .call w => done op (call w s)
  | .callCond cc w => callCond op cc w s
  | .rst k => done op (rst k s)
  | .ret => done op s.returnFrom
  | .retCond cc => retCond op cc s
  | .reti => done op s.returnFromInterrupt
  | .pageTwo => runPrefixed s
  | .illegal b => raiseIllegal b s

theorem exec_eq_run (i : Instr) (s : State) : exec i s = run i.form i.opcode s := by
  cases i <;> rfl

/-! ## One instruction by its shape -/

theorem exec_of_form {i : Instr} {x : Form} (h : i.form = x) (s : State) : exec i s = run x i.opcode s := by
  rw [exec_eq_run, h]

theorem encode_of_form {i : Instr} {x : Form} (h : i.form = x) :
    encode i = opcodeBytes x.opcode ++ x.immediates := by
  rw [encode, Instr.opcode, h]

theorem costs_of_form {i : Instr} {x : Form} (h : i.form = x) (taken : Bool) (n : Nat)
    (e : (if taken then (defaultCost x.opcode).taken else (defaultCost x.opcode).notTaken) = n) :
    costs i taken n := by
  intro c hc
  rw [cyclesOf, hc, Instr.opcode, h]
  exact e

end Sys2Proof.Machine
end

