-- ==== Sys2Proof/Laws/Flags.lean ====
section
/-!
SUPPORT. Closed forms of the arithmetic: what each shared computation of Flags.lean gives, in numbers.
-/

namespace Sys2Proof.Machine

/-! ## The flags byte -/

@[simp] theorem setFlags_fz (s : State) (x : Flags) : (s.setFlags x).fz = x.z := by
  obtain ⟨z, n, h, c⟩ := x
  cases z <;> cases n <;> cases h <;> cases c <;> simp [State.fz, State.setFlags, Flags.byte]

@[simp] theorem setFlags_fn (s : State) (x : Flags) : (s.setFlags x).fn = x.n := by
  obtain ⟨z, n, h, c⟩ := x
  cases z <;> cases n <;> cases h <;> cases c <;> simp [State.fn, State.setFlags, Flags.byte]

@[simp] theorem setFlags_fh (s : State) (x : Flags) : (s.setFlags x).fh = x.h := by
  obtain ⟨z, n, h, c⟩ := x
  cases z <;> cases n <;> cases h <;> cases c <;> simp [State.fh, State.setFlags, Flags.byte]

@[simp] theorem setFlags_fc (s : State) (x : Flags) : (s.setFlags x).fc = x.c := by
  obtain ⟨z, n, h, c⟩ := x
  cases z <;> cases n <;> cases h <;> cases c <;> simp [State.fc, State.setFlags, Flags.byte]

theorem byte_low (x : Flags) : x.byte &&& 0x0F#8 = 0#8 := by
  obtain ⟨z, n, h, c⟩ := x
  cases z <;> cases n <;> cases h <;> cases c <;> rfl

/-- A write of the flags leaves the low nibble. -/
theorem setFlags_low (s : State) (x : Flags) : (s.setFlags x).f &&& 0x0F#8 = s.f &&& 0x0F#8 := by
  show (x.byte ||| (s.f &&& 0x0F#8)) &&& 0x0F#8 = _
  have h : (x.byte ||| (s.f &&& 0x0F#8)) &&& 0x0F#8 = (x.byte &&& 0x0F#8) ||| (s.f &&& 0x0F#8) := by
    apply BitVec.eq_of_getLsbD_eq
    intro i _
    simp only [BitVec.getLsbD_and, BitVec.getLsbD_or]
    cases x.byte.getLsbD i <;> cases s.f.getLsbD i <;> cases (0x0F#8).getLsbD i <;> rfl
  rw [h, byte_low, BitVec.zero_or]

/-! ## 8-bit sums and differences -/

theorem toNat_carry9 (c : Bool) : (carry9 c).toNat = c.toNat := by cases c <;> rfl

theorem carry_bool (c : Bool) : c.toNat = if c = true then 1 else 0 := by cases c <;> rfl

/-- `add8` in numbers: the closed forms of 42_alu8.md R246. -/
theorem add8_eq (a b : Byte) (cin : Bool) :
    add8 a b cin = (BitVec.ofNat 8 (a.toNat + b.toNat + cin.toNat),
      ⟨decide ((a.toNat + b.toNat + cin.toNat) % 0x100 = 0), false,
        decide (0xF < a.toNat % 0x10 + b.toNat % 0x10 + cin.toNat), decide (0xFF < a.toNat + b.toNat + cin.toNat)⟩) := by
  have ha := a.isLt
  have hb := b.isLt
  have hc : cin.toNat ≤ 1 := by cases cin <;> decide
  have hr : (a.setWidth 9 + b.setWidth 9 + carry9 cin).setWidth 8 =
      BitVec.ofNat 8 (a.toNat + b.toNat + cin.toNat) := by
    apply BitVec.eq_of_toNat_eq
    simp only [BitVec.toNat_setWidth, BitVec.toNat_add, toNat_carry9, BitVec.toNat_ofNat]
    omega
  have hx : ∀ i, i < 9 → (a.setWidth 9 ^^^ b.setWidth 9 ^^^ (a.setWidth 9 + b.setWidth 9 + carry9 cin)).getLsbD i =
      BitVec.carry i (a.setWidth 9) (b.setWidth 9) cin := by
    intro i hi
    rw [BitVec.getLsbD_xor, BitVec.getLsbD_xor, carry9, BitVec.getLsbD_add_add_bool hi]
    cases (a.setWidth 9).getLsbD i <;> cases (b.setWidth 9).getLsbD i <;> simp
  simp only [add8, hr, hx 4 (by omega), hx 8 (by omega), BitVec.carry, BitVec.toNat_setWidth]
  refine Prod.ext rfl ?_
  refine Flags.mk.injEq .. ▸ ⟨?_, rfl, ?_, ?_⟩
  · rw [Bool.eq_iff_iff]
    simp only [beq_iff_eq, decide_eq_true_eq, ← BitVec.toNat_inj, BitVec.toNat_ofNat]
  · rw [decide_eq_decide]; omega
  · rw [decide_eq_decide]; omega

/-- `sub8` in numbers: the closed forms of 42_alu8.md R247. -/
theorem sub8_eq (a b : Byte) (cin : Bool) :
    sub8 a b cin = (BitVec.ofInt 8 ((a.toNat : Int) - b.toNat - cin.toNat),
      ⟨decide (BitVec.ofInt 8 ((a.toNat : Int) - b.toNat - cin.toNat) = 0#8), true,
        decide (a.toNat % 0x10 < b.toNat % 0x10 + cin.toNat), decide (a.toNat < b.toNat + cin.toNat)⟩) := by
  have ha := a.isLt
  have hb := b.isLt
  have hc : cin.toNat ≤ 1 := by cases cin <;> decide
  have hr : (a.setWidth 9 - b.setWidth 9 - carry9 cin).setWidth 8 =
      BitVec.ofInt 8 ((a.toNat : Int) - b.toNat - cin.toNat) := by
    apply BitVec.eq_of_toNat_eq
    simp only [BitVec.toNat_setWidth, BitVec.toNat_sub, toNat_carry9, BitVec.toNat_ofInt]
    omega
  have hs : a.setWidth 9 - b.setWidth 9 - carry9 cin =
      a.setWidth 9 + ~~~(b.setWidth 9) + (BitVec.ofBool !cin).setWidth 9 := by
    apply BitVec.eq_of_toNat_eq
    simp only [BitVec.toNat_sub, BitVec.toNat_add, toNat_carry9, BitVec.toNat_not, BitVec.toNat_setWidth]
    cases cin <;> simp <;> omega
  have hx : ∀ i, i < 9 → (a.setWidth 9 ^^^ b.setWidth 9 ^^^ (a.setWidth 9 - b.setWidth 9 - carry9 cin)).getLsbD i =
      !BitVec.carry i (a.setWidth 9) (~~~(b.setWidth 9)) (!cin) := by
    intro i hi
    rw [hs, BitVec.getLsbD_xor, BitVec.getLsbD_xor, BitVec.getLsbD_add_add_bool hi, BitVec.getLsbD_not]
    cases (a.setWidth 9).getLsbD i <;> cases (b.setWidth 9).getLsbD i <;> simp [hi]
  simp only [sub8, hr, hx 4 (by omega), hx 8 (by omega), BitVec.carry, BitVec.toNat_setWidth, BitVec.toNat_not]
  refine Prod.ext rfl ?_
  refine Flags.mk.injEq .. ▸ ⟨?_, rfl, ?_, ?_⟩
  · rw [Bool.eq_iff_iff]; simp
  · rw [← decide_not, decide_eq_decide]; cases cin <;> simp at * <;> omega
  · rw [← decide_not, decide_eq_decide]; cases cin <;> simp at * <;> omega

/-! ## Halves of a word in numbers -/

theorem hi_toNat (w : Word) : (hi w).toNat = w.toNat / 256 := by
  have := w.isLt
  simp only [hi, BitVec.extractLsb'_toNat, Nat.shiftRight_eq_div_pow]
  omega

theorem lo_toNat (w : Word) : (lo w).toNat = w.toNat % 256 := by
  simp only [lo, BitVec.extractLsb'_toNat, Nat.shiftRight_zero]

theorem mk16_toNat (h l : Byte) : (mk16 h l).toNat = 256 * h.toNat + l.toNat := by
  have := l.isLt
  rw [mk16, BitVec.toNat_append, Nat.shiftLeft_eq, Nat.mul_comm, ← Nat.two_pow_add_eq_or_of_lt this]

/-! ## Addresses -/

/-- `0xFF00 + a8` (30_encoding.md R154). -/
theorem highAddr_eq (n : Byte) : highAddr n = 0xFF00#16 + n.setWidth 16 := by
  have := n.isLt
  apply BitVec.eq_of_toNat_eq
  rw [highAddr, mk16_toNat]
  simp only [BitVec.toNat_add, BitVec.toNat_setWidth, BitVec.toNat_ofNat]
  omega

/-- Adding `sext_16(e)` is adding `signed8(e)` (00_scope.md R9). -/
theorem add_sext16 (w : Word) (e : Byte) : w + sext16 e = BitVec.ofInt 16 ((w.toNat : Int) + e.toInt) := by
  have hw := w.isLt
  have he := e.isLt
  apply BitVec.eq_of_toNat_eq
  rw [sext16, BitVec.toNat_add, BitVec.toNat_signExtend, BitVec.toNat_ofInt, BitVec.toInt_eq_toNat_cond]
  simp only [BitVec.toNat_setWidth, BitVec.msb_eq_decide]
  split <;> rename_i h <;> simp at h ⊢ <;> split <;> omega

/-- The target of a relative jump (45_control.md R343). -/
theorem relative_eq (s : State) (e : Byte) :
    s.relative e = BitVec.ofInt 16 ((s.pc.toNat : Int) + 2 + e.toInt) := by
  rw [State.relative, add_sext16]
  have := s.pc.isLt
  have h2 : (2 : Word).toNat = 2 := rfl
  apply BitVec.eq_of_toNat_eq
  simp only [BitVec.toNat_ofInt, BitVec.toNat_add, h2]
  omega

end Sys2Proof.Machine
end

