-- ==== Sys2Proof/Laws/Memory.lean ====
section
/-!
SUPPORT. The laws of the storage cells: reading after writing, and the canonical form, which every operation that
writes storage keeps.
-/

namespace Sys2Proof.Machine

/-! ## One cell -/

theorem read_write_other (m : Memory) {k j : Nat} (v : Byte) (h : j ≠ k) :
    Memory.read (Memory.write m k v) j = Memory.read m j := by
  induction m with
  | nil => unfold Memory.write; split <;> simp [Memory.read, h]
  | cons x m ih =>
    obtain ⟨i, w⟩ := x
    unfold Memory.write
    split
    · split
      · rfl
      · simp [Memory.read, h]
    split
    · subst_vars
      split <;> simp [Memory.read, h]
    · simp only [Memory.read]
      split
      · rfl
      · exact ih

theorem read_of_all_gt (m : Memory) {k : Nat} (h : m.all (fun x => decide (k < x.1)) = true) :
    Memory.read m k = Memory.fill := by
  induction m with
  | nil => rfl
  | cons x m ih =>
    obtain ⟨i, w⟩ := x
    simp only [List.all_cons, Bool.and_eq_true, decide_eq_true_eq] at h
    rw [Memory.read, if_neg (by omega), ih h.2]

theorem read_write_same (m : Memory) (k : Nat) (v : Byte) (h : Memory.wf m = true) :
    Memory.read (Memory.write m k v) k = v := by
  induction m with
  | nil =>
    unfold Memory.write
    split
    · subst_vars; rfl
    · simp [Memory.read]
  | cons x m ih =>
    obtain ⟨i, w⟩ := x
    simp only [Memory.wf, Bool.and_eq_true] at h
    unfold Memory.write
    split
    · rename_i hk
      split
      · subst_vars
        apply read_of_all_gt
        simp only [List.all_cons, Bool.and_eq_true, decide_eq_true_eq]
        refine ⟨hk, List.all_eq_true.2 fun y hy => ?_⟩
        have := List.all_eq_true.1 h.1.2 y hy
        simp only [decide_eq_true_eq] at this ⊢
        omega
      · simp [Memory.read]
    split
    · subst_vars
      split
      · subst_vars; exact read_of_all_gt m h.1.2
      · simp [Memory.read]
    · rw [Memory.read, if_neg (by omega), ih h.2]

/-- A property of cell numbers that all listed cells and the written one have still holds of all listed cells. -/
theorem all_write (p : Nat → Bool) (m : Memory) (k : Nat) (v : Byte) (h : m.all (fun x => p x.1) = true)
    (hk : p k = true) : (Memory.write m k v).all (fun x => p x.1) = true := by
  induction m with
  | nil => unfold Memory.write; split <;> simp [hk]
  | cons x m ih =>
    obtain ⟨i, w⟩ := x
    simp only [List.all_cons, Bool.and_eq_true] at h
    unfold Memory.write
    split
    · split <;> simp [h.1, h.2, hk]
    split
    · split <;> simp [h.2, hk]
    · simp only [List.all_cons, Bool.and_eq_true]
      exact ⟨h.1, ih h.2⟩

theorem wf_write (m : Memory) (k : Nat) (v : Byte) (h : Memory.wf m = true) :
    Memory.wf (Memory.write m k v) = true := by
  induction m with
  | nil => unfold Memory.write; split <;> simp_all [Memory.wf]
  | cons x m ih =>
    obtain ⟨i, w⟩ := x
    have h' := h
    simp only [Memory.wf, Bool.and_eq_true] at h
    unfold Memory.write
    split
    · rename_i hk
      split
      · exact h'
      · rename_i hv
        rw [Memory.wf]
        simp only [List.all_cons, Bool.and_eq_true, decide_eq_true_eq, bne_iff_ne, ne_eq]
        refine ⟨⟨hv, hk, List.all_eq_true.2 fun y hy => ?_⟩, h'⟩
        have := List.all_eq_true.1 h.1.2 y hy
        simp only [decide_eq_true_eq] at this ⊢
        omega
    split
    · subst_vars
      split
      · exact h.2
      · rename_i hv
        simp only [Memory.wf, Bool.and_eq_true, bne_iff_ne, ne_eq]
        exact ⟨⟨hv, h.1.2⟩, h.2⟩
    · simp only [Memory.wf, Bool.and_eq_true]
      exact ⟨⟨h.1.1, all_write (fun j => decide (i < j)) m k v h.1.2 (by simp only [decide_eq_true_eq]; omega)⟩,
        ih h.2⟩

/-- Writing what a cell of a canonical memory holds changes nothing. -/
theorem write_read_same (m : Memory) (k : Nat) (h : Memory.wf m = true) :
    Memory.write m k (Memory.read m k) = m := by
  induction m with
  | nil => rfl
  | cons x m ih =>
    obtain ⟨i, w⟩ := x
    have h' := h
    simp only [Memory.wf, Bool.and_eq_true, bne_iff_ne, ne_eq] at h
    rw [Memory.read, Memory.write]
    by_cases h1 : k < i
    · have hm : Memory.read m k = Memory.fill := by
        refine read_of_all_gt m (List.all_eq_true.2 fun y hy => ?_)
        have := List.all_eq_true.1 h.1.2 y hy
        simp only [decide_eq_true_eq] at this ⊢
        omega
      have h2 : k ≠ i := by omega
      rw [if_neg h2, if_pos h1, hm, if_pos rfl]
    rw [if_neg h1]
    by_cases h2 : k = i
    · subst h2
      rw [if_pos rfl, if_pos rfl, if_neg h.1.1]
    · rw [if_neg h2, if_neg h2, ih h.2]

/-! ## Known answers -/

theorem rising_filter (p : Host.Cell → Bool) (m : List Host.Cell) (h : cellsRising m = true) :
    cellsRising (m.filter p) = true := by
  induction m with
  | nil => rfl
  | cons x m ih =>
    obtain ⟨i, w⟩ := x
    simp only [cellsRising, Bool.and_eq_true] at h
    rw [List.filter_cons]
    split
    · simp only [cellsRising, Bool.and_eq_true]
      exact ⟨List.all_eq_true.2 fun y hy => List.all_eq_true.1 h.1 y (List.mem_filter.1 hy).1, ih h.2⟩
    · exact ih h.2

theorem find_filter (p : Host.Cell → Bool) (m : List Host.Cell) (k : Nat) (h : ∀ v, p (k, v) = true) :
    cellsFind (m.filter p) k = cellsFind m k := by
  induction m with
  | nil => rfl
  | cons x m ih =>
    obtain ⟨i, w⟩ := x
    rw [List.filter_cons]
    split
    · simp only [cellsFind, ih]
    · rename_i hp
      have : k ≠ i := fun e => hp (e ▸ h w)
      simp only [cellsFind, if_neg this, ih]

/-- What a list says after entries of some keys are dropped. -/
theorem find_filter_key (p : Nat → Bool) (m : List Host.Cell) (k : Nat) :
    cellsFind (m.filter fun x => p x.1) k = if p k then cellsFind m k else none := by
  induction m with
  | nil => simp [cellsFind]
  | cons x m ih =>
    obtain ⟨i, w⟩ := x
    rw [List.filter_cons]
    by_cases h : k = i
    · subst h
      by_cases hp : p k = true
      · simp [cellsFind, hp]
      · simp only [Bool.not_eq_true] at hp
        simp [ih, hp]
    · by_cases hp : p i = true
      · simp only [hp, if_true, cellsFind, if_neg h, ih]
      · rw [if_neg hp, ih, cellsFind, if_neg h]

/-- What is known after a call: all that was, but what the called collaborator answers (log 5). -/
theorem callOut_find (s : State) (c : Call) (n : Nat) :
    cellsFind (s.callOut c).known n = if callTouches s.cfg c n then none else cellsFind s.known n := by
  show cellsFind (s.known.filter fun x => !callTouches s.cfg c x.1) n = _
  rw [find_filter_key (fun n => !callTouches s.cfg c n)]
  cases callTouches s.cfg c n <;> rfl

/-- What is known once the joypad port may have changed: all that was, but the input device's answer (log 27). -/
theorem forgetInput_find (s : State) (n : Nat) :
    cellsFind s.forgetInput.known n = if n = 0xFF00 then none else cellsFind s.known n := by
  show cellsFind (s.known.filter fun x => x.1 != 0xFF00) n = _
  rw [find_filter_key (fun n => n != 0xFF00)]
  by_cases h : n = 0xFF00 <;> simp [h]

theorem rising_put (m : List Host.Cell) (k : Nat) (v : Byte) (h : cellsRising m = true) :
    cellsRising (cellsPut m k v) = true := by
  have hall : ∀ (i : Nat) (m : List Host.Cell), i < k → m.all (fun x => decide (i < x.1)) = true →
      (cellsPut m k v).all (fun x => decide (i < x.1)) = true := by
    intro i m hi hm
    induction m with
    | nil => simpa [cellsPut] using hi
    | cons x m ih =>
      obtain ⟨j, w⟩ := x
      simp only [List.all_cons, Bool.and_eq_true, decide_eq_true_eq] at hm
      unfold cellsPut
      split
      · simp only [List.all_cons, Bool.and_eq_true, decide_eq_true_eq]; exact ⟨hi, hm.1, hm.2⟩
      split
      · simp only [List.all_cons, Bool.and_eq_true, decide_eq_true_eq]; exact ⟨hi, hm.2⟩
      · simp only [List.all_cons, Bool.and_eq_true, decide_eq_true_eq]; exact ⟨hm.1, ih hm.2⟩
  induction m with
  | nil => rfl
  | cons x m ih =>
    obtain ⟨i, w⟩ := x
    have h' := h
    simp only [cellsRising, Bool.and_eq_true] at h
    unfold cellsPut
    split
    · rename_i hk
      rw [cellsRising]
      simp only [List.all_cons, Bool.and_eq_true, decide_eq_true_eq]
      refine ⟨⟨hk, List.all_eq_true.2 fun y hy => ?_⟩, h'⟩
      have := List.all_eq_true.1 h.1 y hy
      simp only [decide_eq_true_eq] at this ⊢
      omega
    split
    · subst_vars
      simp only [cellsRising, Bool.and_eq_true]
      exact h
    · simp only [cellsRising, Bool.and_eq_true]
      exact ⟨hall i m (by omega) h.1, ih h.2⟩

theorem find_put_same (m : List Host.Cell) (k : Nat) (v : Byte) : cellsFind (cellsPut m k v) k = some v := by
  induction m with
  | nil => simp [cellsPut, cellsFind]
  | cons x m ih =>
    obtain ⟨i, w⟩ := x
    unfold cellsPut
    split
    · simp [cellsFind]
    split
    · simp [cellsFind]
    · rw [cellsFind, if_neg (by omega), ih]

/-! ## The canonical form is kept -/

/-- Every operation that writes storage goes through `store`, so a property of memory that every write of a cell
keeps is kept by a fold of stores. -/
theorem foldl_keeps {α : Type} {P : State → Prop} (g : State → α → State) (hg : ∀ s i, P s → P (g s i))
    (xs : List α) (s : State) (h : P s) : P (xs.foldl g s) := by
  induction xs generalizing s with
  | nil => exact h
  | cons i xs ih => exact ih _ (hg s i h)

theorem store_wf (s : State) (k : Nat) (v : Byte) (h : s.mem.wf = true) : (s.store k v).mem.wf = true :=
  wf_write s.mem k v h

theorem setIo_wf (s : State) (p : Nat) (v : Byte) (h : s.mem.wf = true) : (s.setIo p v).mem.wf = true :=
  store_wf s _ v h

theorem dmaCopy_wf (s : State) (v : Byte) (h : s.mem.wf = true) : (s.dmaCopy v).mem.wf = true := by
  unfold State.dmaCopy
  exact foldl_keeps (P := fun t => t.mem.wf = true) (State.dmaByte v) (fun t i ht => store_wf t _ _ ht) _ s h

theorem requestHdma_wf (s : State) (v : Byte) (h : s.mem.wf = true) : (s.requestHdma v).mem.wf = true :=
  foldl_keeps (P := fun t => t.mem.wf = true) State.hdmaByte (fun t _ ht => store_wf t _ _ ht) _
    (s.callOut (.hdma v)) h

theorem memWrite_wf (s : State) (a : Word) (v : Byte) (h : s.mem.wf = true) : (s.memWrite a v).mem.wf = true := by
  apply memWrite_cases (P := fun t => t.mem.wf = true)
  case dma => exact fun _ => dmaCopy_wf _ v (setIo_wf s _ _ h)
  case hdma => exact fun _ _ => requestHdma_wf _ v (setIo_wf s _ _ h)
  all_goals intros; first | exact h | exact store_wf s _ _ h

theorem memWrite16_wf (s : State) (a w : Word) (h : s.mem.wf = true) : (s.memWrite16 a w).mem.wf = true :=
  memWrite_wf _ _ _ (memWrite_wf s _ _ h)

theorem push16_wf (s : State) (w : Word) (h : s.mem.wf = true) : (s.push16 w).mem.wf = true :=
  memWrite_wf _ _ _ (memWrite_wf s _ _ h)

theorem serve_wf (s : State) (k : Fin 5) (h : s.mem.wf = true) : (s.serve k).mem.wf = true :=
  setIo_wf _ _ _ (push16_wf _ _ h)

theorem speedSwitch_wf (s : State) (h : s.mem.wf = true) : s.speedSwitch.mem.wf = true := by
  unfold State.speedSwitch
  split
  · exact setIo_wf _ _ _ h
  · exact h

theorem divTicks_wf (n : Nat) (s : State) (h : s.mem.wf = true) : (State.divTicks n s).mem.wf = true := by
  induction n generalizing s with
  | zero => exact h
  | succ n ih => exact ih _ (setIo_wf _ _ _ h)

theorem counterEvent_wf (s : State) (h : s.mem.wf = true) : s.counterEvent.mem.wf = true := by
  unfold State.counterEvent
  split
  · exact setIo_wf _ _ _ (setIo_wf _ _ _ h)
  · exact setIo_wf _ _ _ h

theorem counterEvents_wf (p n : Nat) (s : State) (h : s.mem.wf = true) :
    (State.counterEvents p n s).mem.wf = true := by
  induction n generalizing s with
  | zero => exact h
  | succ n ih => exact ih _ (counterEvent_wf _ h)

theorem timerAdvance_wf (s : State) (n : Nat) (h : s.mem.wf = true) : (s.timerAdvance n).mem.wf = true := by
  have h1 : (s.speedSwitch.accumulate n).mem.wf = true := speedSwitch_wf s h
  have h2 := divTicks_wf ((s.speedSwitch.accumulate n).divAcc / divQuantum) _ h1
  show (State.runCounter _).mem.wf = true
  unfold State.runCounter
  dsimp only
  split
  · exact counterEvents_wf _ _ _ h2
  · exact h2

theorem placeByte_wf (s : State) (a : Word) (v : Byte) (h : s.mem.wf = true) :
    (s.placeByte a v).mem.wf = true := by
  unfold State.placeByte
  split
  · exact h
  · exact store_wf _ _ _ h
  · exact h
  · exact h

theorem reset_wf (c : Config) : (State.resetWith c).mem.wf = true := rfl

end Sys2Proof.Machine
end

