-- ==== Sys2Proof/Laws/Parameters.lean ====
section
/-!
SUPPORT. What legal parameters (Config.wf) say about single addresses: where the overlay and the owned ports can
lie. A proof about the memory map cites these instead of unfolding the lists of ranges.
-/

namespace Sys2Proof.Machine

theorem inRanges_inside {lo hi n : Nat} {xs : List (Nat × Nat)} (h : rangesInside lo hi xs = true)
    (hn : inRanges xs n = true) : lo ≤ n ∧ n < hi := by
  simp only [rangesInside, List.all_eq_true, Bool.and_eq_true, decide_eq_true_eq] at h
  simp only [inRanges, List.any_eq_true, Bool.and_eq_true, decide_eq_true_eq] at hn
  obtain ⟨x, hx, h1, h2⟩ := hn
  have := h x hx
  omega

theorem inRanges_disjoint {n : Nat} {xs ys : List (Nat × Nat)} (h : rangesDisjoint xs ys = true)
    (hn : inRanges xs n = true) : inRanges ys n = false := by
  cases hy : inRanges ys n with
  | false => rfl
  | true =>
    simp only [inRanges, List.any_eq_true, Bool.and_eq_true, decide_eq_true_eq] at hy hn
    obtain ⟨x, hx, h1, h2⟩ := hn
    obtain ⟨y, hy, h3, h4⟩ := hy
    simp only [rangesDisjoint, List.all_eq_true, Bool.or_eq_true, decide_eq_true_eq] at h
    have := h x hx y hy
    omega

/-- The overlay of legal parameters lies below video RAM (R81). -/
theorem bootRom_high {c : Config} (h : c.wf = true) {n : Nat} (hn : 0x8000 ≤ n) : bootRom c n = none := by
  simp only [Config.wf, Bool.and_eq_true] at h
  unfold bootRom
  cases hb : inRanges c.bootRanges n with
  | false => rfl
  | true => have := inRanges_inside h.1.1 hb; omega

/-- A port owned under legal parameters lies in the I/O window and is no intercept (R98). -/
theorem owned_port {c : Config} (h : c.wf = true) {n : Nat}
    (hn : inRanges c.audioOwned n = true ∨ inRanges c.videoOwned n = true) :
    0xFF00 < n ∧ n < 0xFF80 ∧ n ≠ 0xFF04 ∧ n ≠ 0xFF05 ∧ n ≠ 0xFF06 ∧ n ≠ 0xFF07 ∧ n ≠ 0xFF0F ∧ n ≠ 0xFF46 ∧
      n ≠ 0xFF4D ∧ n ≠ 0xFF4F ∧ n ≠ 0xFF50 ∧ n ≠ 0xFF55 ∧ n ≠ 0xFF70 := by
  simp only [Config.wf, Config.ownersOk, ownedOk, Bool.and_eq_true] at h
  obtain ⟨⟨-, ⟨⟨a1, a2⟩, ⟨v1, v2⟩⟩, -⟩, -⟩ := h
  rcases hn with hn | hn
  · have h1 := inRanges_inside a1 hn
    have h2 := inRanges_disjoint a2 hn
    simp [inRanges, interceptPorts] at h2
    omega
  · have h1 := inRanges_inside v1 hn
    have h2 := inRanges_disjoint v2 hn
    simp [inRanges, interceptPorts] at h2
    omega

/-- No port has two owners under legal parameters (R98). -/
theorem owners_disjoint {c : Config} (h : c.wf = true) {n : Nat} (hn : inRanges c.audioOwned n = true) :
    inRanges c.videoOwned n = false := by
  simp only [Config.wf, Config.ownersOk, Bool.and_eq_true] at h
  exact inRanges_disjoint h.1.2.2 hn

end Sys2Proof.Machine
end

