-- ==== Sys2Proof/Laws/PerInstr.lean ====
section
/-!
SUPPORT. The per-instruction family of LAWS.json: every instruction's encoding has the length that the grid of
30_encoding.md R166 gives its opcode.
-/

namespace Sys2Proof.Laws.EncodedLength

/-- A row of the grid in which every instruction is one byte long. -/
def plain : List Nat := List.replicate 16 1

/-- The length columns of R166's first page, by high nibble; 1 where the grid has none (prefix, illegal). -/
def firstPageLength : List (List Nat) := [
  [1, 3, 1, 1, 1, 1, 2, 1, 3, 1, 1, 1, 1, 1, 2, 1],
  [2, 3, 1, 1, 1, 1, 2, 1, 2, 1, 1, 1, 1, 1, 2, 1],
  [2, 3, 1, 1, 1, 1, 2, 1, 2, 1, 1, 1, 1, 1, 2, 1],
  [2, 3, 1, 1, 1, 1, 2, 1, 2, 1, 1, 1, 1, 1, 2, 1],
  plain,
  plain,
  plain,
  plain,
  plain,
  plain,
  plain,
  plain,
  [1, 1, 3, 3, 3, 1, 2, 1, 1, 1, 3, 1, 3, 3, 2, 1],
  [1, 1, 3, 1, 3, 1, 2, 1, 1, 1, 3, 1, 3, 1, 2, 1],
  [2, 1, 1, 1, 1, 1, 2, 1, 2, 1, 3, 1, 1, 1, 2, 1],
  [2, 1, 1, 1, 1, 1, 2, 1, 2, 1, 3, 1, 1, 1, 2, 1]]

/-- The length of the row with a combined opcode; "Second page: length 2 for all". -/
def rowLength (op : Nat) : Nat :=
  if op < 0x100 then (firstPageLength.getD (op / 16) []).getD (op % 16) 0 else 2

/-- An instruction's encoding is as long as its row. -/
def Statement (i : Instr) : Prop := (encode i).length = rowLength i.opcode

/-- The statement from the opcode's number and the number of operand bytes. -/
theorem of_opcode {i : Instr} (n k : Nat) (hn : i.opcode = n) (hk : i.form.immediates.length = k)
    (h : (opcodeBytes n).length + k = rowLength n) : Statement i := by
  rw [Statement, encode, List.length_append, hk, hn, h]

theorem nop : Statement .nop := rfl
theorem ld_bc_d16 (w : Word) : Statement (.ld_bc_d16 w) := of_opcode 0x1 2 rfl rfl rfl
theorem ld_mbc_a : Statement .ld_mbc_a := rfl
theorem inc_bc : Statement .inc_bc := rfl
theorem inc_b : Statement .inc_b := rfl
theorem dec_b : Statement .dec_b := rfl
theorem ld_b_d8 (n : Byte) : Statement (.ld_b_d8 n) := of_opcode 0x6 1 rfl rfl rfl
theorem rlca : Statement .rlca := rfl
theorem ld_ma16_sp (w : Word) : Statement (.ld_ma16_sp w) := of_opcode 0x8 2 rfl rfl rfl
theorem add_hl_bc : Statement .add_hl_bc := rfl
theorem ld_a_mbc : Statement .ld_a_mbc := rfl
theorem dec_bc : Statement .dec_bc := rfl
theorem inc_c : Statement .inc_c := rfl
theorem dec_c : Statement .dec_c := rfl
theorem ld_c_d8 (n : Byte) : Statement (.ld_c_d8 n) := of_opcode 0xe 1 rfl rfl rfl
theorem rrca : Statement .rrca := rfl
theorem stop : Statement .stop := rfl
theorem ld_de_d16 (w : Word) : Statement (.ld_de_d16 w) := of_opcode 0x11 2 rfl rfl rfl
theorem ld_mde_a : Statement .ld_mde_a := rfl
theorem inc_de : Statement .inc_de := rfl
theorem inc_d : Statement .inc_d := rfl
theorem dec_d : Statement .dec_d := rfl
theorem ld_d_d8 (n : Byte) : Statement (.ld_d_d8 n) := of_opcode 0x16 1 rfl rfl rfl
theorem rla : Statement .rla := rfl
theorem jr_e8 (e : Byte) : Statement (.jr_e8 e) := of_opcode 0x18 1 rfl rfl rfl
theorem add_hl_de : Statement .add_hl_de := rfl
theorem ld_a_mde : Statement .ld_a_mde := rfl
theorem dec_de : Statement .dec_de := rfl
theorem inc_e : Statement .inc_e := rfl
theorem dec_e : Statement .dec_e := rfl
theorem ld_e_d8 (n : Byte) : Statement (.ld_e_d8 n) := of_opcode 0x1e 1 rfl rfl rfl
theorem rra : Statement .rra := rfl
theorem jr_nz_e8 (e : Byte) : Statement (.jr_nz_e8 e) := of_opcode 0x20 1 rfl rfl rfl
theorem ld_hl_d16 (w : Word) : Statement (.ld_hl_d16 w) := of_opcode 0x21 2 rfl rfl rfl
theorem ld_mhli_a : Statement .ld_mhli_a := rfl
theorem inc_hl : Statement .inc_hl := rfl
theorem inc_h : Statement .inc_h := rfl
theorem dec_h : Statement .dec_h := rfl
theorem ld_h_d8 (n : Byte) : Statement (.ld_h_d8 n) := of_opcode 0x26 1 rfl rfl rfl
theorem daa : Statement .daa := rfl
theorem jr_z_e8 (e : Byte) : Statement (.jr_z_e8 e) := of_opcode 0x28 1 rfl rfl rfl
theorem add_hl_hl : Statement .add_hl_hl := rfl
theorem ld_a_mhli : Statement .ld_a_mhli := rfl
theorem dec_hl : Statement .dec_hl := rfl
theorem inc_l : Statement .inc_l := rfl
theorem dec_l : Statement .dec_l := rfl
theorem ld_l_d8 (n : Byte) : Statement (.ld_l_d8 n) := of_opcode 0x2e 1 rfl rfl rfl
theorem cpl : Statement .cpl := rfl
theorem jr_nc_e8 (e : Byte) : Statement (.jr_nc_e8 e) := of_opcode 0x30 1 rfl rfl rfl
theorem ld_sp_d16 (w : Word) : Statement (.ld_sp_d16 w) := of_opcode 0x31 2 rfl rfl rfl
theorem ld_mhld_a : Statement .ld_mhld_a := rfl
theorem inc_sp : Statement .inc_sp := rfl
theorem inc_mhl : Statement .inc_mhl := rfl
theorem dec_mhl : Statement .dec_mhl := rfl
theorem ld_mhl_d8 (n : Byte) : Statement (.ld_mhl_d8 n) := of_opcode 0x36 1 rfl rfl rfl
theorem scf : Statement .scf := rfl
theorem jr_c_e8 (e : Byte) : Statement (.jr_c_e8 e) := of_opcode 0x38 1 rfl rfl rfl
theorem add_hl_sp : Statement .add_hl_sp := rfl
theorem ld_a_mhld : Statement .ld_a_mhld := rfl
theorem dec_sp : Statement .dec_sp := rfl
theorem inc_a : Statement .inc_a := rfl
theorem dec_a : Statement .dec_a := rfl
theorem ld_a_d8 (n : Byte) : Statement (.ld_a_d8 n) := of_opcode 0x3e 1 rfl rfl rfl
theorem ccf : Statement .ccf := rfl
theorem ld_b_b : Statement .ld_b_b := rfl
theorem ld_b_c : Statement .ld_b_c := rfl
theorem ld_b_d : Statement .ld_b_d := rfl
theorem ld_b_e : Statement .ld_b_e := rfl
theorem ld_b_h : Statement .ld_b_h := rfl
theorem ld_b_l : Statement .ld_b_l := rfl
theorem ld_b_mhl : Statement .ld_b_mhl := rfl
theorem ld_b_a : Statement .ld_b_a := rfl
theorem ld_c_b : Statement .ld_c_b := rfl
theorem ld_c_c : Statement .ld_c_c := rfl
theorem ld_c_d : Statement .ld_c_d := rfl
theorem ld_c_e : Statement .ld_c_e := rfl
theorem ld_c_h : Statement .ld_c_h := rfl
theorem ld_c_l : Statement .ld_c_l := rfl
theorem ld_c_mhl : Statement .ld_c_mhl := rfl
theorem ld_c_a : Statement .ld_c_a := rfl
theorem ld_d_b : Statement .ld_d_b := rfl
theorem ld_d_c : Statement .ld_d_c := rfl
theorem ld_d_d : Statement .ld_d_d := rfl
theorem ld_d_e : Statement .ld_d_e := rfl
theorem ld_d_h : Statement .ld_d_h := rfl
theorem ld_d_l : Statement .ld_d_l := rfl
theorem ld_d_mhl : Statement .ld_d_mhl := rfl
theorem ld_d_a : Statement .ld_d_a := rfl
theorem ld_e_b : Statement .ld_e_b := rfl
theorem ld_e_c : Statement .ld_e_c := rfl
theorem ld_e_d : Statement .ld_e_d := rfl
theorem ld_e_e : Statement .ld_e_e := rfl
theorem ld_e_h : Statement .ld_e_h := rfl
theorem ld_e_l : Statement .ld_e_l := rfl
theorem ld_e_mhl : Statement .ld_e_mhl := rfl
theorem ld_e_a : Statement .ld_e_a := rfl
theorem ld_h_b : Statement .ld_h_b := rfl
theorem ld_h_c : Statement .ld_h_c := rfl
theorem ld_h_d : Statement .ld_h_d := rfl
theorem ld_h_e : Statement .ld_h_e := rfl
theorem ld_h_h : Statement .ld_h_h := rfl
theorem ld_h_l : Statement .ld_h_l := rfl
theorem ld_h_mhl : Statement .ld_h_mhl := rfl
theorem ld_h_a : Statement .ld_h_a := rfl
theorem ld_l_b : Statement .ld_l_b := rfl
theorem ld_l_c : Statement .ld_l_c := rfl
theorem ld_l_d : Statement .ld_l_d := rfl
theorem ld_l_e : Statement .ld_l_e := rfl
theorem ld_l_h : Statement .ld_l_h := rfl
theorem ld_l_l : Statement .ld_l_l := rfl
theorem ld_l_mhl : Statement .ld_l_mhl := rfl
theorem ld_l_a : Statement .ld_l_a := rfl
theorem ld_mhl_b : Statement .ld_mhl_b := rfl
theorem ld_mhl_c : Statement .ld_mhl_c := rfl
theorem ld_mhl_d : Statement .ld_mhl_d := rfl
theorem ld_mhl_e : Statement .ld_mhl_e := rfl
theorem ld_mhl_h : Statement .ld_mhl_h := rfl
theorem ld_mhl_l : Statement .ld_mhl_l := rfl
theorem halt : Statement .halt := rfl
theorem ld_mhl_a : Statement .ld_mhl_a := rfl
theorem ld_a_b : Statement .ld_a_b := rfl
theorem ld_a_c : Statement .ld_a_c := rfl
theorem ld_a_d : Statement .ld_a_d := rfl
theorem ld_a_e : Statement .ld_a_e := rfl
theorem ld_a_h : Statement .ld_a_h := rfl
theorem ld_a_l : Statement .ld_a_l := rfl
theorem ld_a_mhl : Statement .ld_a_mhl := rfl
theorem ld_a_a : Statement .ld_a_a := rfl
theorem add_a_b : Statement .add_a_b := rfl
theorem add_a_c : Statement .add_a_c := rfl
theorem add_a_d : Statement .add_a_d := rfl
theorem add_a_e : Statement .add_a_e := rfl
theorem add_a_h : Statement .add_a_h := rfl
theorem add_a_l : Statement .add_a_l := rfl
theorem add_a_mhl : Statement .add_a_mhl := rfl
theorem add_a_a : Statement .add_a_a := rfl
theorem adc_a_b : Statement .adc_a_b := rfl
theorem adc_a_c : Statement .adc_a_c := rfl
theorem adc_a_d : Statement .adc_a_d := rfl
theorem adc_a_e : Statement .adc_a_e := rfl
theorem adc_a_h : Statement .adc_a_h := rfl
theorem adc_a_l : Statement .adc_a_l := rfl
theorem adc_a_mhl : Statement .adc_a_mhl := rfl
theorem adc_a_a : Statement .adc_a_a := rfl
theorem sub_b : Statement .sub_b := rfl
theorem sub_c : Statement .sub_c := rfl
theorem sub_d : Statement .sub_d := rfl
theorem sub_e : Statement .sub_e := rfl
theorem sub_h : Statement .sub_h := rfl
theorem sub_l : Statement .sub_l := rfl
theorem sub_mhl : Statement .sub_mhl := rfl
theorem sub_a : Statement .sub_a := rfl
theorem sbc_a_b : Statement .sbc_a_b := rfl
theorem sbc_a_c : Statement .sbc_a_c := rfl
theorem sbc_a_d : Statement .sbc_a_d := rfl
theorem sbc_a_e : Statement .sbc_a_e := rfl
theorem sbc_a_h : Statement .sbc_a_h := rfl
theorem sbc_a_l : Statement .sbc_a_l := rfl
theorem sbc_a_mhl : Statement .sbc_a_mhl := rfl
theorem sbc_a_a : Statement .sbc_a_a := rfl
theorem and_b : Statement .and_b := rfl
theorem and_c : Statement .and_c := rfl
theorem and_d : Statement .and_d := rfl
theorem and_e : Statement .and_e := rfl
theorem and_h : Statement .and_h := rfl
theorem and_l : Statement .and_l := rfl
theorem and_mhl : Statement .and_mhl := rfl
theorem and_a : Statement .and_a := rfl
theorem xor_b : Statement .xor_b := rfl
theorem xor_c : Statement .xor_c := rfl
theorem xor_d : Statement .xor_d := rfl
theorem xor_e : Statement .xor_e := rfl
theorem xor_h : Statement .xor_h := rfl
theorem xor_l : Statement .xor_l := rfl
theorem xor_mhl : Statement .xor_mhl := rfl
theorem xor_a : Statement .xor_a := rfl
theorem or_b : Statement .or_b := rfl
theorem or_c : Statement .or_c := rfl
theorem or_d : Statement .or_d := rfl
theorem or_e : Statement .or_e := rfl
theorem or_h : Statement .or_h := rfl
theorem or_l : Statement .or_l := rfl
theorem or_mhl : Statement .or_mhl := rfl
theorem or_a : Statement .or_a := rfl
theorem cp_b : Statement .cp_b := rfl
theorem cp_c : Statement .cp_c := rfl
theorem cp_d : Statement .cp_d := rfl
theorem cp_e : Statement .cp_e := rfl
theorem cp_h : Statement .cp_h := rfl
theorem cp_l : Statement .cp_l := rfl
theorem cp_mhl : Statement .cp_mhl := rfl
theorem cp_a : Statement .cp_a := rfl
theorem ret_nz : Statement .ret_nz := rfl
theorem pop_bc : Statement .pop_bc := rfl
theorem jp_nz_a16 (w : Word) : Statement (.jp_nz_a16 w) := of_opcode 0xc2 2 rfl rfl rfl
theorem jp_a16 (w : Word) : Statement (.jp_a16 w) := of_opcode 0xc3 2 rfl rfl rfl
theorem call_nz_a16 (w : Word) : Statement (.call_nz_a16 w) := of_opcode 0xc4 2 rfl rfl rfl
theorem push_bc : Statement .push_bc := rfl
theorem add_a_d8 (n : Byte) : Statement (.add_a_d8 n) := of_opcode 0xc6 1 rfl rfl rfl
theorem rst_00h : Statement .rst_00h := rfl
theorem ret_z : Statement .ret_z := rfl
theorem ret : Statement .ret := rfl
theorem jp_z_a16 (w : Word) : Statement (.jp_z_a16 w) := of_opcode 0xca 2 rfl rfl rfl
theorem prefix_cb : Statement .prefix_cb := rfl
theorem call_z_a16 (w : Word) : Statement (.call_z_a16 w) := of_opcode 0xcc 2 rfl rfl rfl
theorem call_a16 (w : Word) : Statement (.call_a16 w) := of_opcode 0xcd 2 rfl rfl rfl
theorem adc_a_d8 (n : Byte) : Statement (.adc_a_d8 n) := of_opcode 0xce 1 rfl rfl rfl
theorem rst_08h : Statement .rst_08h := rfl
theorem ret_nc : Statement .ret_nc := rfl
theorem pop_de : Statement .pop_de := rfl
theorem jp_nc_a16 (w : Word) : Statement (.jp_nc_a16 w) := of_opcode 0xd2 2 rfl rfl rfl
theorem illegal_d3 : Statement .illegal_d3 := rfl
theorem call_nc_a16 (w : Word) : Statement (.call_nc_a16 w) := of_opcode 0xd4 2 rfl rfl rfl
theorem push_de : Statement .push_de := rfl
theorem sub_d8 (n : Byte) : Statement (.sub_d8 n) := of_opcode 0xd6 1 rfl rfl rfl
theorem rst_10h : Statement .rst_10h := rfl
theorem ret_c : Statement .ret_c := rfl
theorem reti : Statement .reti := rfl
theorem jp_c_a16 (w : Word) : Statement (.jp_c_a16 w) := of_opcode 0xda 2 rfl rfl rfl
theorem illegal_db : Statement .illegal_db := rfl
theorem call_c_a16 (w : Word) : Statement (.call_c_a16 w) := of_opcode 0xdc 2 rfl rfl rfl
theorem illegal_dd : Statement .illegal_dd := rfl
theorem sbc_a_d8 (n : Byte) : Statement (.sbc_a_d8 n) := of_opcode 0xde 1 rfl rfl rfl
theorem rst_18h : Statement .rst_18h := rfl
theorem ldh_ma8_a (n : Byte) : Statement (.ldh_ma8_a n) := of_opcode 0xe0 1 rfl rfl rfl
theorem pop_hl : Statement .pop_hl := rfl
theorem ld_mc_a : Statement .ld_mc_a := rfl
theorem illegal_e3 : Statement .illegal_e3 := rfl
theorem illegal_e4 : Statement .illegal_e4 := rfl
theorem push_hl : Statement .push_hl := rfl
theorem and_d8 (n : Byte) : Statement (.and_d8 n) := of_opcode 0xe6 1 rfl rfl rfl
theorem rst_20h : Statement .rst_20h := rfl
theorem add_sp_e8 (e : Byte) : Statement (.add_sp_e8 e) := of_opcode 0xe8 1 rfl rfl rfl
theorem jp_hl : Statement .jp_hl := rfl
theorem ld_ma16_a (w : Word) : Statement (.ld_ma16_a w) := of_opcode 0xea 2 rfl rfl rfl
theorem illegal_eb : Statement .illegal_eb := rfl
theorem illegal_ec : Statement .illegal_ec := rfl
theorem illegal_ed : Statement .illegal_ed := rfl
theorem xor_d8 (n : Byte) : Statement (.xor_d8 n) := of_opcode 0xee 1 rfl rfl rfl
theorem rst_28h : Statement .rst_28h := rfl
theorem ldh_a_ma8 (n : Byte) : Statement (.ldh_a_ma8 n) := of_opcode 0xf0 1 rfl rfl rfl
theorem pop_af : Statement .pop_af := rfl
theorem ld_a_mc : Statement .ld_a_mc := rfl
theorem di : Statement .di := rfl
theorem illegal_f4 : Statement .illegal_f4 := rfl
theorem push_af : Statement .push_af := rfl
theorem or_d8 (n : Byte) : Statement (.or_d8 n) := of_opcode 0xf6 1 rfl rfl rfl
theorem rst_30h : Statement .rst_30h := rfl
theorem ld_hl_sp_e8 (e : Byte) : Statement (.ld_hl_sp_e8 e) := of_opcode 0xf8 1 rfl rfl rfl
theorem ld_sp_hl : Statement .ld_sp_hl := rfl
theorem ld_a_ma16 (w : Word) : Statement (.ld_a_ma16 w) := of_opcode 0xfa 2 rfl rfl rfl
theorem ei : Statement .ei := rfl
theorem illegal_fc : Statement .illegal_fc := rfl
theorem illegal_fd : Statement .illegal_fd := rfl
theorem cp_d8 (n : Byte) : Statement (.cp_d8 n) := of_opcode 0xfe 1 rfl rfl rfl
theorem rst_38h : Statement .rst_38h := rfl
theorem rlc_b : Statement .rlc_b := rfl
theorem rlc_c : Statement .rlc_c := rfl
theorem rlc_d : Statement .rlc_d := rfl
theorem rlc_e : Statement .rlc_e := rfl
theorem rlc_h : Statement .rlc_h := rfl
theorem rlc_l : Statement .rlc_l := rfl
theorem rlc_mhl : Statement .rlc_mhl := rfl
theorem rlc_a : Statement .rlc_a := rfl
theorem rrc_b : Statement .rrc_b := rfl
theorem rrc_c : Statement .rrc_c := rfl
theorem rrc_d : Statement .rrc_d := rfl
theorem rrc_e : Statement .rrc_e := rfl
theorem rrc_h : Statement .rrc_h := rfl
theorem rrc_l : Statement .rrc_l := rfl
theorem rrc_mhl : Statement .rrc_mhl := rfl
theorem rrc_a : Statement .rrc_a := rfl
theorem rl_b : Statement .rl_b := rfl
theorem rl_c : Statement .rl_c := rfl
theorem rl_d : Statement .rl_d := rfl
theorem rl_e : Statement .rl_e := rfl
theorem rl_h : Statement .rl_h := rfl
theorem rl_l : Statement .rl_l := rfl
theorem rl_mhl : Statement .rl_mhl := rfl
theorem rl_a : Statement .rl_a := rfl
theorem rr_b : Statement .rr_b := rfl
theorem rr_c : Statement .rr_c := rfl
theorem rr_d : Statement .rr_d := rfl
theorem rr_e : Statement .rr_e := rfl
theorem rr_h : Statement .rr_h := rfl
theorem rr_l : Statement .rr_l := rfl
theorem rr_mhl : Statement .rr_mhl := rfl
theorem rr_a : Statement .rr_a := rfl
theorem sla_b : Statement .sla_b := rfl
theorem sla_c : Statement .sla_c := rfl
theorem sla_d : Statement .sla_d := rfl
theorem sla_e : Statement .sla_e := rfl
theorem sla_h : Statement .sla_h := rfl
theorem sla_l : Statement .sla_l := rfl
theorem sla_mhl : Statement .sla_mhl := rfl
theorem sla_a : Statement .sla_a := rfl
theorem sra_b : Statement .sra_b := rfl
theorem sra_c : Statement .sra_c := rfl
theorem sra_d : Statement .sra_d := rfl
theorem sra_e : Statement .sra_e := rfl
theorem sra_h : Statement .sra_h := rfl
theorem sra_l : Statement .sra_l := rfl
theorem sra_mhl : Statement .sra_mhl := rfl
theorem sra_a : Statement .sra_a := rfl
theorem swap_b : Statement .swap_b := rfl
theorem swap_c : Statement .swap_c := rfl
theorem swap_d : Statement .swap_d := rfl
theorem swap_e : Statement .swap_e := rfl
theorem swap_h : Statement .swap_h := rfl
theorem swap_l : Statement .swap_l := rfl
theorem swap_mhl : Statement .swap_mhl := rfl
theorem swap_a : Statement .swap_a := rfl
theorem srl_b : Statement .srl_b := rfl
theorem srl_c : Statement .srl_c := rfl
theorem srl_d : Statement .srl_d := rfl
theorem srl_e : Statement .srl_e := rfl
theorem srl_h : Statement .srl_h := rfl
theorem srl_l : Statement .srl_l := rfl
theorem srl_mhl : Statement .srl_mhl := rfl
theorem srl_a : Statement .srl_a := rfl
theorem bit_0_b : Statement .bit_0_b := rfl
theorem bit_0_c : Statement .bit_0_c := rfl
theorem bit_0_d : Statement .bit_0_d := rfl
theorem bit_0_e : Statement .bit_0_e := rfl
theorem bit_0_h : Statement .bit_0_h := rfl
theorem bit_0_l : Statement .bit_0_l := rfl
theorem bit_0_mhl : Statement .bit_0_mhl := rfl
theorem bit_0_a : Statement .bit_0_a := rfl
theorem bit_1_b : Statement .bit_1_b := rfl
theorem bit_1_c : Statement .bit_1_c := rfl
theorem bit_1_d : Statement .bit_1_d := rfl
theorem bit_1_e : Statement .bit_1_e := rfl
theorem bit_1_h : Statement .bit_1_h := rfl
theorem bit_1_l : Statement .bit_1_l := rfl
theorem bit_1_mhl : Statement .bit_1_mhl := rfl
theorem bit_1_a : Statement .bit_1_a := rfl
theorem bit_2_b : Statement .bit_2_b := rfl
theorem bit_2_c : Statement .bit_2_c := rfl
theorem bit_2_d : Statement .bit_2_d := rfl
theorem bit_2_e : Statement .bit_2_e := rfl
theorem bit_2_h : Statement .bit_2_h := rfl
theorem bit_2_l : Statement .bit_2_l := rfl
theorem bit_2_mhl : Statement .bit_2_mhl := rfl
theorem bit_2_a : Statement .bit_2_a := rfl
theorem bit_3_b : Statement .bit_3_b := rfl
theorem bit_3_c : Statement .bit_3_c := rfl
theorem bit_3_d : Statement .bit_3_d := rfl
theorem bit_3_e : Statement .bit_3_e := rfl
theorem bit_3_h : Statement .bit_3_h := rfl
theorem bit_3_l : Statement .bit_3_l := rfl
theorem bit_3_mhl : Statement .bit_3_mhl := rfl
theorem bit_3_a : Statement .bit_3_a := rfl
theorem bit_4_b : Statement .bit_4_b := rfl
theorem bit_4_c : Statement .bit_4_c := rfl
theorem bit_4_d : Statement .bit_4_d := rfl
theorem bit_4_e : Statement .bit_4_e := rfl
theorem bit_4_h : Statement .bit_4_h := rfl
theorem bit_4_l : Statement .bit_4_l := rfl
theorem bit_4_mhl : Statement .bit_4_mhl := rfl
theorem bit_4_a : Statement .bit_4_a := rfl
theorem bit_5_b : Statement .bit_5_b := rfl
theorem bit_5_c : Statement .bit_5_c := rfl
theorem bit_5_d : Statement .bit_5_d := rfl
theorem bit_5_e : Statement .bit_5_e := rfl
theorem bit_5_h : Statement .bit_5_h := rfl
theorem bit_5_l : Statement .bit_5_l := rfl
theorem bit_5_mhl : Statement .bit_5_mhl := rfl
theorem bit_5_a : Statement .bit_5_a := rfl
theorem bit_6_b : Statement .bit_6_b := rfl
theorem bit_6_c : Statement .bit_6_c := rfl
theorem bit_6_d : Statement .bit_6_d := rfl
theorem bit_6_e : Statement .bit_6_e := rfl
theorem bit_6_h : Statement .bit_6_h := rfl
theorem bit_6_l : Statement .bit_6_l := rfl
theorem bit_6_mhl : Statement .bit_6_mhl := rfl
theorem bit_6_a : Statement .bit_6_a := rfl
theorem bit_7_b : Statement .bit_7_b := rfl
theorem bit_7_c : Statement .bit_7_c := rfl
theorem bit_7_d : Statement .bit_7_d := rfl
theorem bit_7_e : Statement .bit_7_e := rfl
theorem bit_7_h : Statement .bit_7_h := rfl
theorem bit_7_l : Statement .bit_7_l := rfl
theorem bit_7_mhl : Statement .bit_7_mhl := rfl
theorem bit_7_a : Statement .bit_7_a := rfl
theorem res_0_b : Statement .res_0_b := rfl
theorem res_0_c : Statement .res_0_c := rfl
theorem res_0_d : Statement .res_0_d := rfl
theorem res_0_e : Statement .res_0_e := rfl
theorem res_0_h : Statement .res_0_h := rfl
theorem res_0_l : Statement .res_0_l := rfl
theorem res_0_mhl : Statement .res_0_mhl := rfl
theorem res_0_a : Statement .res_0_a := rfl
theorem res_1_b : Statement .res_1_b := rfl
theorem res_1_c : Statement .res_1_c := rfl
theorem res_1_d : Statement .res_1_d := rfl
theorem res_1_e : Statement .res_1_e := rfl
theorem res_1_h : Statement .res_1_h := rfl
theorem res_1_l : Statement .res_1_l := rfl
theorem res_1_mhl : Statement .res_1_mhl := rfl
theorem res_1_a : Statement .res_1_a := rfl
theorem res_2_b : Statement .res_2_b := rfl
theorem res_2_c : Statement .res_2_c := rfl
theorem res_2_d : Statement .res_2_d := rfl
theorem res_2_e : Statement .res_2_e := rfl
theorem res_2_h : Statement .res_2_h := rfl
theorem res_2_l : Statement .res_2_l := rfl
theorem res_2_mhl : Statement .res_2_mhl := rfl
theorem res_2_a : Statement .res_2_a := rfl
theorem res_3_b : Statement .res_3_b := rfl
theorem res_3_c : Statement .res_3_c := rfl
theorem res_3_d : Statement .res_3_d := rfl
theorem res_3_e : Statement .res_3_e := rfl
theorem res_3_h : Statement .res_3_h := rfl
theorem res_3_l : Statement .res_3_l := rfl
theorem res_3_mhl : Statement .res_3_mhl := rfl
theorem res_3_a : Statement .res_3_a := rfl
theorem res_4_b : Statement .res_4_b := rfl
theorem res_4_c : Statement .res_4_c := rfl
theorem res_4_d : Statement .res_4_d := rfl
theorem res_4_e : Statement .res_4_e := rfl
theorem res_4_h : Statement .res_4_h := rfl
theorem res_4_l : Statement .res_4_l := rfl
theorem res_4_mhl : Statement .res_4_mhl := rfl
theorem res_4_a : Statement .res_4_a := rfl
theorem res_5_b : Statement .res_5_b := rfl
theorem res_5_c : Statement .res_5_c := rfl
theorem res_5_d : Statement .res_5_d := rfl
theorem res_5_e : Statement .res_5_e := rfl
theorem res_5_h : Statement .res_5_h := rfl
theorem res_5_l : Statement .res_5_l := rfl
theorem res_5_mhl : Statement .res_5_mhl := rfl
theorem res_5_a : Statement .res_5_a := rfl
theorem res_6_b : Statement .res_6_b := rfl
theorem res_6_c : Statement .res_6_c := rfl
theorem res_6_d : Statement .res_6_d := rfl
theorem res_6_e : Statement .res_6_e := rfl
theorem res_6_h : Statement .res_6_h := rfl
theorem res_6_l : Statement .res_6_l := rfl
theorem res_6_mhl : Statement .res_6_mhl := rfl
theorem res_6_a : Statement .res_6_a := rfl
theorem res_7_b : Statement .res_7_b := rfl
theorem res_7_c : Statement .res_7_c := rfl
theorem res_7_d : Statement .res_7_d := rfl
theorem res_7_e : Statement .res_7_e := rfl
theorem res_7_h : Statement .res_7_h := rfl
theorem res_7_l : Statement .res_7_l := rfl
theorem res_7_mhl : Statement .res_7_mhl := rfl
theorem res_7_a : Statement .res_7_a := rfl
theorem set_0_b : Statement .set_0_b := rfl
theorem set_0_c : Statement .set_0_c := rfl
theorem set_0_d : Statement .set_0_d := rfl
theorem set_0_e : Statement .set_0_e := rfl
theorem set_0_h : Statement .set_0_h := rfl
theorem set_0_l : Statement .set_0_l := rfl
theorem set_0_mhl : Statement .set_0_mhl := rfl
theorem set_0_a : Statement .set_0_a := rfl
theorem set_1_b : Statement .set_1_b := rfl
theorem set_1_c : Statement .set_1_c := rfl
theorem set_1_d : Statement .set_1_d := rfl
theorem set_1_e : Statement .set_1_e := rfl
theorem set_1_h : Statement .set_1_h := rfl
theorem set_1_l : Statement .set_1_l := rfl
theorem set_1_mhl : Statement .set_1_mhl := rfl
theorem set_1_a : Statement .set_1_a := rfl
theorem set_2_b : Statement .set_2_b := rfl
theorem set_2_c : Statement .set_2_c := rfl
theorem set_2_d : Statement .set_2_d := rfl
theorem set_2_e : Statement .set_2_e := rfl
theorem set_2_h : Statement .set_2_h := rfl
theorem set_2_l : Statement .set_2_l := rfl
theorem set_2_mhl : Statement .set_2_mhl := rfl
theorem set_2_a : Statement .set_2_a := rfl
theorem set_3_b : Statement .set_3_b := rfl
theorem set_3_c : Statement .set_3_c := rfl
theorem set_3_d : Statement .set_3_d := rfl
theorem set_3_e : Statement .set_3_e := rfl
theorem set_3_h : Statement .set_3_h := rfl
theorem set_3_l : Statement .set_3_l := rfl
theorem set_3_mhl : Statement .set_3_mhl := rfl
theorem set_3_a : Statement .set_3_a := rfl
theorem set_4_b : Statement .set_4_b := rfl
theorem set_4_c : Statement .set_4_c := rfl
theorem set_4_d : Statement .set_4_d := rfl
theorem set_4_e : Statement .set_4_e := rfl
theorem set_4_h : Statement .set_4_h := rfl
theorem set_4_l : Statement .set_4_l := rfl
theorem set_4_mhl : Statement .set_4_mhl := rfl
theorem set_4_a : Statement .set_4_a := rfl
theorem set_5_b : Statement .set_5_b := rfl
theorem set_5_c : Statement .set_5_c := rfl
theorem set_5_d : Statement .set_5_d := rfl
theorem set_5_e : Statement .set_5_e := rfl
theorem set_5_h : Statement .set_5_h := rfl
theorem set_5_l : Statement .set_5_l := rfl
theorem set_5_mhl : Statement .set_5_mhl := rfl
theorem set_5_a : Statement .set_5_a := rfl
theorem set_6_b : Statement .set_6_b := rfl
theorem set_6_c : Statement .set_6_c := rfl
theorem set_6_d : Statement .set_6_d := rfl
theorem set_6_e : Statement .set_6_e := rfl
theorem set_6_h : Statement .set_6_h := rfl
theorem set_6_l : Statement .set_6_l := rfl
theorem set_6_mhl : Statement .set_6_mhl := rfl
theorem set_6_a : Statement .set_6_a := rfl
theorem set_7_b : Statement .set_7_b := rfl
theorem set_7_c : Statement .set_7_c := rfl
theorem set_7_d : Statement .set_7_d := rfl
theorem set_7_e : Statement .set_7_e := rfl
theorem set_7_h : Statement .set_7_h := rfl
theorem set_7_l : Statement .set_7_l := rfl
theorem set_7_mhl : Statement .set_7_mhl := rfl
theorem set_7_a : Statement .set_7_a := rfl

end Sys2Proof.Laws.EncodedLength
end

