-- ==== Sys2Proof/Laws/Router.lean ====
section
/-!
SUPPORT. The memory router: what a read depends on, and what a write leaves alone.
-/

namespace Sys2Proof.Machine

/-! ## What a read depends on -/

/-- The backing store of an address depends on the parameters, the overlay, the bank the address lies in, and, at
the joypad port, the stored select bits (20_memory.md R82). -/
theorem backing_eq {s t : State} (x : Word) (hc : t.cfg = s.cfg)
    (hb : (if t.bootOn then bootRom s.cfg x.toNat else none) = if s.bootOn then bootRom s.cfg x.toNat else none)
    (hv : 0x8000 ≤ x.toNat → x.toNat < 0xA000 → t.vbank = s.vbank)
    (hw : 0xD000 ≤ unecho x.toNat → unecho x.toNat < 0xE000 → t.wbank = s.wbank)
    (hj : (if s.bootOn then bootRom s.cfg x.toNat else none) = none → x.toNat = 0xFF00 → t.io 0x00 = s.io 0x00) : t.backing x = s.backing x := by
  unfold State.backing
  simp only [hc, hb]
  cases e : (if s.bootOn then bootRom s.cfg x.toNat else none) with
  | some v => rfl
  | none =>
    dsimp only
    by_cases h0 : x.toNat < 0x8000
    · rw [if_pos h0, if_pos h0]
    rw [if_neg h0, if_neg h0]
    by_cases h1 : x.toNat < 0xA000
    · rw [if_pos h1, if_pos h1, State.vramCell, State.vramCell, hv (by omega) h1]
    rw [if_neg h1, if_neg h1]
    by_cases h2 : x.toNat < 0xC000
    · rw [if_pos h2, if_pos h2]
    rw [if_neg h2, if_neg h2]
    by_cases h3 : x.toNat < 0xFE00
    · rw [if_pos h3, if_pos h3, State.wramCell, State.wramCell]
      by_cases h4 : unecho x.toNat < 0xD000
      · rw [if_pos h4, if_pos h4]
      · have : unecho x.toNat < 0xE000 := by unfold unecho; split <;> omega
        rw [if_neg h4, if_neg h4, hw (by omega) this]
    rw [if_neg h3, if_neg h3]
    by_cases h5 : x.toNat = 0xFF00
    · rw [hj e h5]
    · rw [if_neg h5, if_neg h5]

/-- A read depends on the backing store of the address and on what that store holds (R82, R100). -/
theorem memRead_eq {s t : State} (x : Word) (hb : t.backing x = s.backing x)
    (hcell : ∀ k, s.backing x = .cell k → t.mem.read k = s.mem.read k)
    (hie : s.backing x = .ie → t.ie = s.ie)
    (hask : ∀ q, s.backing x = .ask q → t.answer x q = s.answer x q) : t.memRead x = s.memRead x := by
  unfold State.memRead
  rw [hb]
  cases h : s.backing x with
  | boot v => rfl
  | cell k => exact hcell k h
  | ie => exact hie h
  | ask q => exact hask q h

/-! ## What a write leaves alone -/

/-- The DMA copy writes the sprite table only. -/
theorem dmaCopy_read_other (s : State) (v : Byte) (k : Nat) (h : k < 0xFE00 ∨ 0xFEA0 ≤ k) :
    (s.dmaCopy v).mem.read k = s.mem.read k := by
  have step : ∀ (xs : List Nat) (t : State), (∀ i ∈ xs, i < 160) →
      (xs.foldl (State.dmaByte v) t).mem.read k = t.mem.read k := by
    intro xs
    induction xs with
    | nil => intros; rfl
    | cons i xs ih =>
      intro t hi
      rw [List.foldl_cons, ih _ fun j hj => hi j (List.mem_cons_of_mem _ hj)]
      have := hi i List.mem_cons_self
      exact read_write_other _ _ (by omega)
  unfold State.dmaCopy
  exact step _ s fun i hi => List.mem_range.1 hi

/-- An HDMA request writes video RAM only. -/
theorem requestHdma_read_other (s : State) (v : Byte) (k : Nat)
    (h : ¬(0x8000 ≤ k % 0x10000 ∧ k % 0x10000 < 0xA000 ∧ k < 0x20000)) :
    (s.requestHdma v).mem.read k = s.mem.read k := by
  refine foldl_keeps (P := fun t => t.mem.read k = s.mem.read k) State.hdmaByte ?_ _ (s.callOut (.hdma v)) rfl
  intro t x ht
  refine (read_write_other _ _ ?_).trans ht
  have h1 := x.1.isLt
  have h2 := x.2.1.isLt
  intro e
  subst e
  apply h
  omega

theorem boolEq_false {a b : Nat} (h : a ≠ b) : (a == b) = false := by simpa using h

/-- A port of the I/O window is changed by a write of its own address only. -/
theorem writesCell_port (s : State) (a : Word) (p : Nat) (hp : p < 0x80) (ha : a.toNat ≠ 0xFF00 + p) :
    s.writesCell a (0xFF00 + p) = false := by
  have hvb : s.vbank ≤ 1 := by unfold State.vbank; split <;> omega
  have hcell : ∀ n, n < 0xE000 → s.wramCell n % 0x10000 = n := by
    intro n hn
    unfold State.wramCell
    split <;> omega
  have hun : a.toNat < 0xFE00 → unecho a.toNat < 0xE000 := by
    intro h
    unfold unecho
    split <;> omega
  unfold State.writesCell
  by_cases h0 : a.toNat < 0x8000
  · rw [if_pos h0]
  rw [if_neg h0]
  by_cases h1 : a.toNat < 0xA000
  · rw [if_pos h1]; exact boolEq_false (by unfold State.vramCell; omega)
  rw [if_neg h1]
  by_cases h2 : a.toNat < 0xC000
  · rw [if_pos h2]
  rw [if_neg h2]
  by_cases h3 : a.toNat < 0xFE00
  · rw [if_pos h3]
    refine boolEq_false fun e => ?_
    have e1 := hcell _ (hun h3)
    have e2 := hun h3
    rw [← e] at e1
    omega
  rw [if_neg h3]
  by_cases h4 : a.toNat < 0xFEA0
  · rw [if_pos h4]; exact boolEq_false (by omega)
  rw [if_neg h4]
  by_cases h5 : a.toNat < 0xFF00
  · rw [if_pos h5]
  rw [if_neg h5]
  by_cases h6 : a.toNat = 0xFF46
  · rw [if_pos h6]; simp only [Bool.or_eq_false_iff, Bool.and_eq_false_iff, decide_eq_false_iff_not]; exact ⟨boolEq_false (by omega), by omega⟩
  rw [if_neg h6]
  by_cases h7 : a.toNat = 0xFF55 ∧ s.cfg.cgbMode = true
  · rw [if_pos h7]; simp only [Bool.or_eq_false_iff, Bool.and_eq_false_iff, decide_eq_false_iff_not]; exact ⟨boolEq_false (by omega), by omega⟩
  rw [if_neg h7]
  by_cases h8 : a.toNat = 0xFF00 ∨ a.toNat = 0xFF04 ∨ a.toNat = 0xFF50
  · rw [if_pos h8]; exact boolEq_false (by omega)
  rw [if_neg h8]
  by_cases h9 : inRanges s.cfg.audioOwned a.toNat = true
  · rw [if_pos h9]
  rw [if_neg h9]
  by_cases h10 : inRanges s.cfg.videoOwned a.toNat = true
  · rw [if_pos h10]
  rw [if_neg h10]
  by_cases h11 : a.toNat < 0xFFFF
  · rw [if_pos h11]; exact boolEq_false (by omega)
  · rw [if_neg h11]

end Sys2Proof.Machine
end

