-- ==== Sys2Proof/Laws/Timer.lean ====
section
/-!
SUPPORT. Everything the loops of the timer advance do: the divider's ticks and the counter's events as closed
forms, with their frames.
-/

namespace Sys2Proof.Machine

/-- `n` ticks of the divider: DIV up by `n`, DIVACC down by 256 a tick, no other cell and no other field. -/
theorem divTicks_eq (n : Nat) (s : State) (hw : s.mem.wf = true) :
    (State.divTicks n s).mem.read 0xFF04 = s.mem.read 0xFF04 + BitVec.ofNat 8 n ∧
    (State.divTicks n s).divAcc = s.divAcc - 256 * n ∧
    (∀ k, k ≠ 0xFF04 → (State.divTicks n s).mem.read k = s.mem.read k) ∧
    State.divTicks n s = { s with mem := (State.divTicks n s).mem, divAcc := (State.divTicks n s).divAcc } := by
  induction n generalizing s with
  | zero => exact ⟨by simp [State.divTicks], rfl, fun _ _ => rfl, rfl⟩
  | succ n ih =>
    obtain ⟨a, b, c, d⟩ := ih s.divTick (setIo_wf _ _ _ hw)
    refine ⟨?_, ?_, fun k hk => (c k hk).trans (read_write_other _ _ hk), ?_⟩
    · show (State.divTicks n s.divTick).mem.read _ = _
      rw [a]
      show Memory.read (Memory.write s.mem 0xFF04 _) 0xFF04 + _ = _
      rw [read_write_same _ _ _ hw]
      show s.mem.read 0xFF04 + 1 + _ = _
      apply BitVec.eq_of_toNat_eq
      simp
      omega
    · show (State.divTicks n s.divTick).divAcc = _
      rw [b]
      show s.divAcc - 256 - 256 * n = _
      omega
    · rw [show State.divTicks (n + 1) s = State.divTicks n s.divTick from rfl]
      generalize State.divTicks n s.divTick = t at d ⊢
      have hs : ∀ m x, { s.divTick with mem := m, divAcc := x } = { s with mem := m, divAcc := x } := by
        intro m x
        simp [State.divTick]
      exact d.trans (hs _ _)

/-- One counter event (R454): TIMA and the Timer request, no other cell and no other field. -/
theorem counterEvent_eq (s : State) (hw : s.mem.wf = true) :
    let x := tickCounter (s.mem.read 0xFF06) (s.mem.read 0xFF05, false)
    s.counterEvent.mem.read 0xFF05 = x.1 ∧
    s.counterEvent.mem.read 0xFF0F = (if x.2 then s.mem.read 0xFF0F ||| 0x04#8 else s.mem.read 0xFF0F) ∧
    (∀ k, k ≠ 0xFF05 → k ≠ 0xFF0F → s.counterEvent.mem.read k = s.mem.read k) ∧
    s.counterEvent = { s with mem := s.counterEvent.mem } := by
  unfold State.counterEvent tickCounter
  have h5 := read_write_same s.mem 0xFF05 (s.io 0x06) hw
  by_cases h : s.mem.read 0xFF05 = 0xFF#8
  · rw [if_pos (show s.io 0x05 = 0xFF#8 from h), if_pos h]
    refine ⟨?_, ?_, ?_, rfl⟩
    · exact (read_write_other _ _ (by decide)).trans h5
    · exact read_write_same _ _ _ (setIo_wf s 0x05 (s.io 0x06) hw)
    · exact fun k h1 h2 => (read_write_other _ _ h2).trans (read_write_other _ _ h1)
  · rw [if_neg (show ¬ s.io 0x05 = 0xFF#8 from h), if_neg h]
    refine ⟨read_write_same _ _ _ hw, read_write_other _ _ (by decide), ?_, rfl⟩
    exact fun k h1 _ => read_write_other _ _ h1

theorem repeat_succ {α : Type} (f : α → α) (n : Nat) (x : α) : Nat.repeat f (n + 1) x = Nat.repeat f n (f x) := by
  induction n with
  | zero => rfl
  | succ n ih => exact congrArg f ih

/-- Whether an event overflowed before does not change TIMA, and once set it stays. -/
theorem tickCounter_repeat (m : Byte) (n : Nat) (v : Byte) (o : Bool) :
    Nat.repeat (tickCounter m) n (v, o) =
      ((Nat.repeat (tickCounter m) n (v, false)).1, o || (Nat.repeat (tickCounter m) n (v, false)).2) := by
  induction n with
  | zero => simp [Nat.repeat]
  | succ n ih =>
    show tickCounter m (Nat.repeat (tickCounter m) n (v, o)) = ((tickCounter m _).1, o || (tickCounter m _).2)
    rw [ih]
    unfold tickCounter
    split <;> simp_all

/-- `n` counter events with period `p`: what `tickCounter` makes of TIMA, the request once an event overflows,
TIMACC down by `p` an event, no other cell and no other field. -/
theorem counterEvents_eq (p n : Nat) (s : State) (hw : s.mem.wf = true) :
    let x := Nat.repeat (tickCounter (s.mem.read 0xFF06)) n (s.mem.read 0xFF05, false)
    let t := State.counterEvents p n s
    t.mem.read 0xFF05 = x.1 ∧
    t.mem.read 0xFF0F = (if x.2 then s.mem.read 0xFF0F ||| 0x04#8 else s.mem.read 0xFF0F) ∧
    t.timAcc = s.timAcc - n * p ∧
    (∀ k, k ≠ 0xFF05 → k ≠ 0xFF0F → t.mem.read k = s.mem.read k) ∧
    t = { s with mem := t.mem, timAcc := t.timAcc } := by
  induction n generalizing s with
  | zero => exact ⟨rfl, rfl, by simp [State.counterEvents], fun _ _ _ => rfl, rfl⟩
  | succ n ih =>
    dsimp only
    rw [show State.counterEvents p (n + 1) s =
      State.counterEvents p n ({ s with timAcc := s.timAcc - p }.counterEvent) from rfl, repeat_succ]
    obtain ⟨e1, e2, e3, e4⟩ := counterEvent_eq { s with timAcc := s.timAcc - p } hw
    have hw' := counterEvent_wf { s with timAcc := s.timAcc - p } hw
    generalize { s with timAcc := s.timAcc - p }.counterEvent = u at *
    obtain ⟨i1, i2, i3, i4, i5⟩ := ih u hw'
    dsimp only at e1 e2 e3 e4 i1 i2 i3 i4 i5
    generalize State.counterEvents p n u = t at *
    have h6 : u.mem.read 0xFF06 = s.mem.read 0xFF06 := e3 _ (by decide) (by decide)
    rw [h6, e1] at i1 i2
    rw [e2] at i2
    rcases hx : tickCounter (s.mem.read 0xFF06) (s.mem.read 0xFF05, false) with ⟨y, o⟩
    rw [hx] at i1 i2
    dsimp only at i1 i2
    rw [tickCounter_repeat]
    refine ⟨i1, ?_, ?_, fun k h1 h2 => (i4 k h1 h2).trans (e3 k h1 h2), ?_⟩
    · rw [i2]
      cases o <;> cases (Nat.repeat (tickCounter (s.mem.read 0xFF06)) n (y, false)).2 <;> simp [BitVec.or_assoc]
    · rw [i3, e4]
      show s.timAcc - p - n * p = _
      rw [Nat.succ_mul]
      omega
    · rw [i5, e4]

end Sys2Proof.Machine
end

