-- ==== Sys2Proof/Tests/Slice0.lean ====
section
/-!
SUPPORT. The author's own tests. Decoding: every row of the two grids (30_encoding.md R163, R164) from words
written out in bits. One-step vectors: rows of 95_test_vectors.md, named after their number there, whose results
come from the spec. Checks of WellFormed.lean. Witnesses: for each statement with hypotheses, concrete values that
meet them together.
-/

namespace Sys2Proof.Tests

open Sys2Proof.Machine

/-! ## Decoding -/

/-- Every word decodes to the instruction beside it. -/
def decodes : List (List Byte × Instr) → Prop
  | [] => True
  | (bs, i) :: rest => decode bs = .ok (i, []) ∧ decodes rest

theorem test_decode_first_page_0x : decodes [
    ([0b00000000#8], .nop), ([0b00000001#8, 0x34#8, 0x12#8], .ld_bc_d16 0x1234#16),
    ([0b00000010#8], .ld_mbc_a), ([0b00000011#8], .inc_bc),
    ([0b00000100#8], .inc_b), ([0b00000101#8], .dec_b),
    ([0b00000110#8, 0x5A#8], .ld_b_d8 0x5A#8), ([0b00000111#8], .rlca),
    ([0b00001000#8, 0x34#8, 0x12#8], .ld_ma16_sp 0x1234#16), ([0b00001001#8], .add_hl_bc),
    ([0b00001010#8], .ld_a_mbc), ([0b00001011#8], .dec_bc),
    ([0b00001100#8], .inc_c), ([0b00001101#8], .dec_c),
    ([0b00001110#8, 0x5A#8], .ld_c_d8 0x5A#8), ([0b00001111#8], .rrca)] :=
  ⟨rfl, rfl, rfl, rfl, rfl, rfl, rfl, rfl, rfl, rfl, rfl, rfl, rfl, rfl, rfl, rfl, trivial⟩

theorem test_decode_first_page_1x : decodes [
    ([0b00010000#8, 0x5A#8], .stop), ([0b00010001#8, 0x34#8, 0x12#8], .ld_de_d16 0x1234#16),
    ([0b00010010#8], .ld_mde_a), ([0b00010011#8], .inc_de),
    ([0b00010100#8], .inc_d), ([0b00010101#8], .dec_d),
    ([0b00010110#8, 0x5A#8], .ld_d_d8 0x5A#8), ([0b00010111#8], .rla),
    ([0b00011000#8, 0x5A#8], .jr_e8 0x5A#8), ([0b00011001#8], .add_hl_de),
    ([0b00011010#8], .ld_a_mde), ([0b00011011#8], .dec_de),
    ([0b00011100#8], .inc_e), ([0b00011101#8], .dec_e),
    ([0b00011110#8, 0x5A#8], .ld_e_d8 0x5A#8), ([0b00011111#8], .rra)] :=
  ⟨rfl, rfl, rfl, rfl, rfl, rfl, rfl, rfl, rfl, rfl, rfl, rfl, rfl, rfl, rfl, rfl, trivial⟩

theorem test_decode_first_page_2x : decodes [
    ([0b00100000#8, 0x5A#8], .jr_nz_e8 0x5A#8), ([0b00100001#8, 0x34#8, 0x12#8], .ld_hl_d16 0x1234#16),
    ([0b00100010#8], .ld_mhli_a), ([0b00100011#8], .inc_hl),
    ([0b00100100#8], .inc_h), ([0b00100101#8], .dec_h),
    ([0b00100110#8, 0x5A#8], .ld_h_d8 0x5A#8), ([0b00100111#8], .daa),
    ([0b00101000#8, 0x5A#8], .jr_z_e8 0x5A#8), ([0b00101001#8], .add_hl_hl),
    ([0b00101010#8], .ld_a_mhli), ([0b00101011#8], .dec_hl),
    ([0b00101100#8], .inc_l), ([0b00101101#8], .dec_l),
    ([0b00101110#8, 0x5A#8], .ld_l_d8 0x5A#8), ([0b00101111#8], .cpl)] :=
  ⟨rfl, rfl, rfl, rfl, rfl, rfl, rfl, rfl, rfl, rfl, rfl, rfl, rfl, rfl, rfl, rfl, trivial⟩

theorem test_decode_first_page_3x : decodes [
    ([0b00110000#8, 0x5A#8], .jr_nc_e8 0x5A#8), ([0b00110001#8, 0x34#8, 0x12#8], .ld_sp_d16 0x1234#16),
    ([0b00110010#8], .ld_mhld_a), ([0b00110011#8], .inc_sp),
    ([0b00110100#8], .inc_mhl), ([0b00110101#8], .dec_mhl),
    ([0b00110110#8, 0x5A#8], .ld_mhl_d8 0x5A#8), ([0b00110111#8], .scf),
    ([0b00111000#8, 0x5A#8], .jr_c_e8 0x5A#8), ([0b00111001#8], .add_hl_sp),
    ([0b00111010#8], .ld_a_mhld), ([0b00111011#8], .dec_sp),
    ([0b00111100#8], .inc_a), ([0b00111101#8], .dec_a),
    ([0b00111110#8, 0x5A#8], .ld_a_d8 0x5A#8), ([0b00111111#8], .ccf)] :=
  ⟨rfl, rfl, rfl, rfl, rfl, rfl, rfl, rfl, rfl, rfl, rfl, rfl, rfl, rfl, rfl, rfl, trivial⟩

theorem test_decode_first_page_4x : decodes [
    ([0b01000000#8], .ld_b_b), ([0b01000001#8], .ld_b_c),
    ([0b01000010#8], .ld_b_d), ([0b01000011#8], .ld_b_e),
    ([0b01000100#8], .ld_b_h), ([0b01000101#8], .ld_b_l),
    ([0b01000110#8], .ld_b_mhl), ([0b01000111#8], .ld_b_a),
    ([0b01001000#8], .ld_c_b), ([0b01001001#8], .ld_c_c),
    ([0b01001010#8], .ld_c_d), ([0b01001011#8], .ld_c_e),
    ([0b01001100#8], .ld_c_h), ([0b01001101#8], .ld_c_l),
    ([0b01001110#8], .ld_c_mhl), ([0b01001111#8], .ld_c_a)] :=
  ⟨rfl, rfl, rfl, rfl, rfl, rfl, rfl, rfl, rfl, rfl, rfl, rfl, rfl, rfl, rfl, rfl, trivial⟩

theorem test_decode_first_page_5x : decodes [
    ([0b01010000#8], .ld_d_b), ([0b01010001#8], .ld_d_c),
    ([0b01010010#8], .ld_d_d), ([0b01010011#8], .ld_d_e),
    ([0b01010100#8], .ld_d_h), ([0b01010101#8], .ld_d_l),
    ([0b01010110#8], .ld_d_mhl), ([0b01010111#8], .ld_d_a),
    ([0b01011000#8], .ld_e_b), ([0b01011001#8], .ld_e_c),
    ([0b01011010#8], .ld_e_d), ([0b01011011#8], .ld_e_e),
    ([0b01011100#8], .ld_e_h), ([0b01011101#8], .ld_e_l),
    ([0b01011110#8], .ld_e_mhl), ([0b01011111#8], .ld_e_a)] :=
  ⟨rfl, rfl, rfl, rfl, rfl, rfl, rfl, rfl, rfl, rfl, rfl, rfl, rfl, rfl, rfl, rfl, trivial⟩

theorem test_decode_first_page_6x : decodes [
    ([0b01100000#8], .ld_h_b), ([0b01100001#8], .ld_h_c),
    ([0b01100010#8], .ld_h_d), ([0b01100011#8], .ld_h_e),
    ([0b01100100#8], .ld_h_h), ([0b01100101#8], .ld_h_l),
    ([0b01100110#8], .ld_h_mhl), ([0b01100111#8], .ld_h_a),
    ([0b01101000#8], .ld_l_b), ([0b01101001#8], .ld_l_c),
    ([0b01101010#8], .ld_l_d), ([0b01101011#8], .ld_l_e),
    ([0b01101100#8], .ld_l_h), ([0b01101101#8], .ld_l_l),
    ([0b01101110#8], .ld_l_mhl), ([0b01101111#8], .ld_l_a)] :=
  ⟨rfl, rfl, rfl, rfl, rfl, rfl, rfl, rfl, rfl, rfl, rfl, rfl, rfl, rfl, rfl, rfl, trivial⟩

theorem test_decode_first_page_7x : decodes [
    ([0b01110000#8], .ld_mhl_b), ([0b01110001#8], .ld_mhl_c),
    ([0b01110010#8], .ld_mhl_d), ([0b01110011#8], .ld_mhl_e),
    ([0b01110100#8], .ld_mhl_h), ([0b01110101#8], .ld_mhl_l),
    ([0b01110110#8], .halt), ([0b01110111#8], .ld_mhl_a),
    ([0b01111000#8], .ld_a_b), ([0b01111001#8], .ld_a_c),
    ([0b01111010#8], .ld_a_d), ([0b01111011#8], .ld_a_e),
    ([0b01111100#8], .ld_a_h), ([0b01111101#8], .ld_a_l),
    ([0b01111110#8], .ld_a_mhl), ([0b01111111#8], .ld_a_a)] :=
  ⟨rfl, rfl, rfl, rfl, rfl, rfl, rfl, rfl, rfl, rfl, rfl, rfl, rfl, rfl, rfl, rfl, trivial⟩

theorem test_decode_first_page_8x : decodes [
    ([0b10000000#8], .add_a_b), ([0b10000001#8], .add_a_c),
    ([0b10000010#8], .add_a_d), ([0b10000011#8], .add_a_e),
    ([0b10000100#8], .add_a_h), ([0b10000101#8], .add_a_l),
    ([0b10000110#8], .add_a_mhl), ([0b10000111#8], .add_a_a),
    ([0b10001000#8], .adc_a_b), ([0b10001001#8], .adc_a_c),
    ([0b10001010#8], .adc_a_d), ([0b10001011#8], .adc_a_e),
    ([0b10001100#8], .adc_a_h), ([0b10001101#8], .adc_a_l),
    ([0b10001110#8], .adc_a_mhl), ([0b10001111#8], .adc_a_a)] :=
  ⟨rfl, rfl, rfl, rfl, rfl, rfl, rfl, rfl, rfl, rfl, rfl, rfl, rfl, rfl, rfl, rfl, trivial⟩

theorem test_decode_first_page_9x : decodes [
    ([0b10010000#8], .sub_b), ([0b10010001#8], .sub_c),
    ([0b10010010#8], .sub_d), ([0b10010011#8], .sub_e),
    ([0b10010100#8], .sub_h), ([0b10010101#8], .sub_l),
    ([0b10010110#8], .sub_mhl), ([0b10010111#8], .sub_a),
    ([0b10011000#8], .sbc_a_b), ([0b10011001#8], .sbc_a_c),
    ([0b10011010#8], .sbc_a_d), ([0b10011011#8], .sbc_a_e),
    ([0b10011100#8], .sbc_a_h), ([0b10011101#8], .sbc_a_l),
    ([0b10011110#8], .sbc_a_mhl), ([0b10011111#8], .sbc_a_a)] :=
  ⟨rfl, rfl, rfl, rfl, rfl, rfl, rfl, rfl, rfl, rfl, rfl, rfl, rfl, rfl, rfl, rfl, trivial⟩

theorem test_decode_first_page_Ax : decodes [
    ([0b10100000#8], .and_b), ([0b10100001#8], .and_c),
    ([0b10100010#8], .and_d), ([0b10100011#8], .and_e),
    ([0b10100100#8], .and_h), ([0b10100101#8], .and_l),
    ([0b10100110#8], .and_mhl), ([0b10100111#8], .and_a),
    ([0b10101000#8], .xor_b), ([0b10101001#8], .xor_c),
    ([0b10101010#8], .xor_d), ([0b10101011#8], .xor_e),
    ([0b10101100#8], .xor_h), ([0b10101101#8], .xor_l),
    ([0b10101110#8], .xor_mhl), ([0b10101111#8], .xor_a)] :=
  ⟨rfl, rfl, rfl, rfl, rfl, rfl, rfl, rfl, rfl, rfl, rfl, rfl, rfl, rfl, rfl, rfl, trivial⟩

theorem test_decode_first_page_Bx : decodes [
    ([0b10110000#8], .or_b), ([0b10110001#8], .or_c),
    ([0b10110010#8], .or_d), ([0b10110011#8], .or_e),
    ([0b10110100#8], .or_h), ([0b10110101#8], .or_l),
    ([0b10110110#8], .or_mhl), ([0b10110111#8], .or_a),
    ([0b10111000#8], .cp_b), ([0b10111001#8], .cp_c),
    ([0b10111010#8], .cp_d), ([0b10111011#8], .cp_e),
    ([0b10111100#8], .cp_h), ([0b10111101#8], .cp_l),
    ([0b10111110#8], .cp_mhl), ([0b10111111#8], .cp_a)] :=
  ⟨rfl, rfl, rfl, rfl, rfl, rfl, rfl, rfl, rfl, rfl, rfl, rfl, rfl, rfl, rfl, rfl, trivial⟩

theorem test_decode_first_page_Cx : decodes [
    ([0b11000000#8], .ret_nz), ([0b11000001#8], .pop_bc),
    ([0b11000010#8, 0x34#8, 0x12#8], .jp_nz_a16 0x1234#16), ([0b11000011#8, 0x34#8, 0x12#8], .jp_a16 0x1234#16),
    ([0b11000100#8, 0x34#8, 0x12#8], .call_nz_a16 0x1234#16), ([0b11000101#8], .push_bc),
    ([0b11000110#8, 0x5A#8], .add_a_d8 0x5A#8), ([0b11000111#8], .rst_00h),
    ([0b11001000#8], .ret_z), ([0b11001001#8], .ret),
    ([0b11001010#8, 0x34#8, 0x12#8], .jp_z_a16 0x1234#16), ([0b11001011#8], .prefix_cb),
    ([0b11001100#8, 0x34#8, 0x12#8], .call_z_a16 0x1234#16), ([0b11001101#8, 0x34#8, 0x12#8], .call_a16 0x1234#16),
    ([0b11001110#8, 0x5A#8], .adc_a_d8 0x5A#8), ([0b11001111#8], .rst_08h)] :=
  ⟨rfl, rfl, rfl, rfl, rfl, rfl, rfl, rfl, rfl, rfl, rfl, rfl, rfl, rfl, rfl, rfl, trivial⟩

theorem test_decode_first_page_Dx : decodes [
    ([0b11010000#8], .ret_nc), ([0b11010001#8], .pop_de),
    ([0b11010010#8, 0x34#8, 0x12#8], .jp_nc_a16 0x1234#16), ([0b11010011#8], .illegal_d3),
    ([0b11010100#8, 0x34#8, 0x12#8], .call_nc_a16 0x1234#16), ([0b11010101#8], .push_de),
    ([0b11010110#8, 0x5A#8], .sub_d8 0x5A#8), ([0b11010111#8], .rst_10h),
    ([0b11011000#8], .ret_c), ([0b11011001#8], .reti),
    ([0b11011010#8, 0x34#8, 0x12#8], .jp_c_a16 0x1234#16), ([0b11011011#8], .illegal_db),
    ([0b11011100#8, 0x34#8, 0x12#8], .call_c_a16 0x1234#16), ([0b11011101#8], .illegal_dd),
    ([0b11011110#8, 0x5A#8], .sbc_a_d8 0x5A#8), ([0b11011111#8], .rst_18h)] :=
  ⟨rfl, rfl, rfl, rfl, rfl, rfl, rfl, rfl, rfl, rfl, rfl, rfl, rfl, rfl, rfl, rfl, trivial⟩

theorem test_decode_first_page_Ex : decodes [
    ([0b11100000#8, 0x5A#8], .ldh_ma8_a 0x5A#8), ([0b11100001#8], .pop_hl),
    ([0b11100010#8], .ld_mc_a), ([0b11100011#8], .illegal_e3),
    ([0b11100100#8], .illegal_e4), ([0b11100101#8], .push_hl),
    ([0b11100110#8, 0x5A#8], .and_d8 0x5A#8), ([0b11100111#8], .rst_20h),
    ([0b11101000#8, 0x5A#8], .add_sp_e8 0x5A#8), ([0b11101001#8], .jp_hl),
    ([0b11101010#8, 0x34#8, 0x12#8], .ld_ma16_a 0x1234#16), ([0b11101011#8], .illegal_eb),
    ([0b11101100#8], .illegal_ec), ([0b11101101#8], .illegal_ed),
    ([0b11101110#8, 0x5A#8], .xor_d8 0x5A#8), ([0b11101111#8], .rst_28h)] :=
  ⟨rfl, rfl, rfl, rfl, rfl, rfl, rfl, rfl, rfl, rfl, rfl, rfl, rfl, rfl, rfl, rfl, trivial⟩

theorem test_decode_first_page_Fx : decodes [
    ([0b11110000#8, 0x5A#8], .ldh_a_ma8 0x5A#8), ([0b11110001#8], .pop_af),
    ([0b11110010#8], .ld_a_mc), ([0b11110011#8], .di),
    ([0b11110100#8], .illegal_f4), ([0b11110101#8], .push_af),
    ([0b11110110#8, 0x5A#8], .or_d8 0x5A#8), ([0b11110111#8], .rst_30h),
    ([0b11111000#8, 0x5A#8], .ld_hl_sp_e8 0x5A#8), ([0b11111001#8], .ld_sp_hl),
    ([0b11111010#8, 0x34#8, 0x12#8], .ld_a_ma16 0x1234#16), ([0b11111011#8], .ei),
    ([0b11111100#8], .illegal_fc), ([0b11111101#8], .illegal_fd),
    ([0b11111110#8, 0x5A#8], .cp_d8 0x5A#8), ([0b11111111#8], .rst_38h)] :=
  ⟨rfl, rfl, rfl, rfl, rfl, rfl, rfl, rfl, rfl, rfl, rfl, rfl, rfl, rfl, rfl, rfl, trivial⟩

theorem test_decode_second_page_0x : decodes [
    ([0xCB#8, 0b00000000#8], .rlc_b), ([0xCB#8, 0b00000001#8], .rlc_c),
    ([0xCB#8, 0b00000010#8], .rlc_d), ([0xCB#8, 0b00000011#8], .rlc_e),
    ([0xCB#8, 0b00000100#8], .rlc_h), ([0xCB#8, 0b00000101#8], .rlc_l),
    ([0xCB#8, 0b00000110#8], .rlc_mhl), ([0xCB#8, 0b00000111#8], .rlc_a),
    ([0xCB#8, 0b00001000#8], .rrc_b), ([0xCB#8, 0b00001001#8], .rrc_c),
    ([0xCB#8, 0b00001010#8], .rrc_d), ([0xCB#8, 0b00001011#8], .rrc_e),
    ([0xCB#8, 0b00001100#8], .rrc_h), ([0xCB#8, 0b00001101#8], .rrc_l),
    ([0xCB#8, 0b00001110#8], .rrc_mhl), ([0xCB#8, 0b00001111#8], .rrc_a)] :=
  ⟨rfl, rfl, rfl, rfl, rfl, rfl, rfl, rfl, rfl, rfl, rfl, rfl, rfl, rfl, rfl, rfl, trivial⟩

theorem test_decode_second_page_1x : decodes [
    ([0xCB#8, 0b00010000#8], .rl_b), ([0xCB#8, 0b00010001#8], .rl_c),
    ([0xCB#8, 0b00010010#8], .rl_d), ([0xCB#8, 0b00010011#8], .rl_e),
    ([0xCB#8, 0b00010100#8], .rl_h), ([0xCB#8, 0b00010101#8], .rl_l),
    ([0xCB#8, 0b00010110#8], .rl_mhl), ([0xCB#8, 0b00010111#8], .rl_a),
    ([0xCB#8, 0b00011000#8], .rr_b), ([0xCB#8, 0b00011001#8], .rr_c),
    ([0xCB#8, 0b00011010#8], .rr_d), ([0xCB#8, 0b00011011#8], .rr_e),
    ([0xCB#8, 0b00011100#8], .rr_h), ([0xCB#8, 0b00011101#8], .rr_l),
    ([0xCB#8, 0b00011110#8], .rr_mhl), ([0xCB#8, 0b00011111#8], .rr_a)] :=
  ⟨rfl, rfl, rfl, rfl, rfl, rfl, rfl, rfl, rfl, rfl, rfl, rfl, rfl, rfl, rfl, rfl, trivial⟩

theorem test_decode_second_page_2x : decodes [
    ([0xCB#8, 0b00100000#8], .sla_b), ([0xCB#8, 0b00100001#8], .sla_c),
    ([0xCB#8, 0b00100010#8], .sla_d), ([0xCB#8, 0b00100011#8], .sla_e),
    ([0xCB#8, 0b00100100#8], .sla_h), ([0xCB#8, 0b00100101#8], .sla_l),
    ([0xCB#8, 0b00100110#8], .sla_mhl), ([0xCB#8, 0b00100111#8], .sla_a),
    ([0xCB#8, 0b00101000#8], .sra_b), ([0xCB#8, 0b00101001#8], .sra_c),
    ([0xCB#8, 0b00101010#8], .sra_d), ([0xCB#8, 0b00101011#8], .sra_e),
    ([0xCB#8, 0b00101100#8], .sra_h), ([0xCB#8, 0b00101101#8], .sra_l),
    ([0xCB#8, 0b00101110#8], .sra_mhl), ([0xCB#8, 0b00101111#8], .sra_a)] :=
  ⟨rfl, rfl, rfl, rfl, rfl, rfl, rfl, rfl, rfl, rfl, rfl, rfl, rfl, rfl, rfl, rfl, trivial⟩

theorem test_decode_second_page_3x : decodes [
    ([0xCB#8, 0b00110000#8], .swap_b), ([0xCB#8, 0b00110001#8], .swap_c),
    ([0xCB#8, 0b00110010#8], .swap_d), ([0xCB#8, 0b00110011#8], .swap_e),
    ([0xCB#8, 0b00110100#8], .swap_h), ([0xCB#8, 0b00110101#8], .swap_l),
    ([0xCB#8, 0b00110110#8], .swap_mhl), ([0xCB#8, 0b00110111#8], .swap_a),
    ([0xCB#8, 0b00111000#8], .srl_b), ([0xCB#8, 0b00111001#8], .srl_c),
    ([0xCB#8, 0b00111010#8], .srl_d), ([0xCB#8, 0b00111011#8], .srl_e),
    ([0xCB#8, 0b00111100#8], .srl_h), ([0xCB#8, 0b00111101#8], .srl_l),
    ([0xCB#8, 0b00111110#8], .srl_mhl), ([0xCB#8, 0b00111111#8], .srl_a)] :=
  ⟨rfl, rfl, rfl, rfl, rfl, rfl, rfl, rfl, rfl, rfl, rfl, rfl, rfl, rfl, rfl, rfl, trivial⟩

theorem test_decode_second_page_4x : decodes [
    ([0xCB#8, 0b01000000#8], .bit_0_b), ([0xCB#8, 0b01000001#8], .bit_0_c),
    ([0xCB#8, 0b01000010#8], .bit_0_d), ([0xCB#8, 0b01000011#8], .bit_0_e),
    ([0xCB#8, 0b01000100#8], .bit_0_h), ([0xCB#8, 0b01000101#8], .bit_0_l),
    ([0xCB#8, 0b01000110#8], .bit_0_mhl), ([0xCB#8, 0b01000111#8], .bit_0_a),
    ([0xCB#8, 0b01001000#8], .bit_1_b), ([0xCB#8, 0b01001001#8], .bit_1_c),
    ([0xCB#8, 0b01001010#8], .bit_1_d), ([0xCB#8, 0b01001011#8], .bit_1_e),
    ([0xCB#8, 0b01001100#8], .bit_1_h), ([0xCB#8, 0b01001101#8], .bit_1_l),
    ([0xCB#8, 0b01001110#8], .bit_1_mhl), ([0xCB#8, 0b01001111#8], .bit_1_a)] :=
  ⟨rfl, rfl, rfl, rfl, rfl, rfl, rfl, rfl, rfl, rfl, rfl, rfl, rfl, rfl, rfl, rfl, trivial⟩

theorem test_decode_second_page_5x : decodes [
    ([0xCB#8, 0b01010000#8], .bit_2_b), ([0xCB#8, 0b01010001#8], .bit_2_c),
    ([0xCB#8, 0b01010010#8], .bit_2_d), ([0xCB#8, 0b01010011#8], .bit_2_e),
    ([0xCB#8, 0b01010100#8], .bit_2_h), ([0xCB#8, 0b01010101#8], .bit_2_l),
    ([0xCB#8, 0b01010110#8], .bit_2_mhl), ([0xCB#8, 0b01010111#8], .bit_2_a),
    ([0xCB#8, 0b01011000#8], .bit_3_b), ([0xCB#8, 0b01011001#8], .bit_3_c),
    ([0xCB#8, 0b01011010#8], .bit_3_d), ([0xCB#8, 0b01011011#8], .bit_3_e),
    ([0xCB#8, 0b01011100#8], .bit_3_h), ([0xCB#8, 0b01011101#8], .bit_3_l),
    ([0xCB#8, 0b01011110#8], .bit_3_mhl), ([0xCB#8, 0b01011111#8], .bit_3_a)] :=
  ⟨rfl, rfl, rfl, rfl, rfl, rfl, rfl, rfl, rfl, rfl, rfl, rfl, rfl, rfl, rfl, rfl, trivial⟩

theorem test_decode_second_page_6x : decodes [
    ([0xCB#8, 0b01100000#8], .bit_4_b), ([0xCB#8, 0b01100001#8], .bit_4_c),
    ([0xCB#8, 0b01100010#8], .bit_4_d), ([0xCB#8, 0b01100011#8], .bit_4_e),
    ([0xCB#8, 0b01100100#8], .bit_4_h), ([0xCB#8, 0b01100101#8], .bit_4_l),
    ([0xCB#8, 0b01100110#8], .bit_4_mhl), ([0xCB#8, 0b01100111#8], .bit_4_a),
    ([0xCB#8, 0b01101000#8], .bit_5_b), ([0xCB#8, 0b01101001#8], .bit_5_c),
    ([0xCB#8, 0b01101010#8], .bit_5_d), ([0xCB#8, 0b01101011#8], .bit_5_e),
    ([0xCB#8, 0b01101100#8], .bit_5_h), ([0xCB#8, 0b01101101#8], .bit_5_l),
    ([0xCB#8, 0b01101110#8], .bit_5_mhl), ([0xCB#8, 0b01101111#8], .bit_5_a)] :=
  ⟨rfl, rfl, rfl, rfl, rfl, rfl, rfl, rfl, rfl, rfl, rfl, rfl, rfl, rfl, rfl, rfl, trivial⟩

theorem test_decode_second_page_7x : decodes [
    ([0xCB#8, 0b01110000#8], .bit_6_b), ([0xCB#8, 0b01110001#8], .bit_6_c),
    ([0xCB#8, 0b01110010#8], .bit_6_d), ([0xCB#8, 0b01110011#8], .bit_6_e),
    ([0xCB#8, 0b01110100#8], .bit_6_h), ([0xCB#8, 0b01110101#8], .bit_6_l),
    ([0xCB#8, 0b01110110#8], .bit_6_mhl), ([0xCB#8, 0b01110111#8], .bit_6_a),
    ([0xCB#8, 0b01111000#8], .bit_7_b), ([0xCB#8, 0b01111001#8], .bit_7_c),
    ([0xCB#8, 0b01111010#8], .bit_7_d), ([0xCB#8, 0b01111011#8], .bit_7_e),
    ([0xCB#8, 0b01111100#8], .bit_7_h), ([0xCB#8, 0b01111101#8], .bit_7_l),
    ([0xCB#8, 0b01111110#8], .bit_7_mhl), ([0xCB#8, 0b01111111#8], .bit_7_a)] :=
  ⟨rfl, rfl, rfl, rfl, rfl, rfl, rfl, rfl, rfl, rfl, rfl, rfl, rfl, rfl, rfl, rfl, trivial⟩

theorem test_decode_second_page_8x : decodes [
    ([0xCB#8, 0b10000000#8], .res_0_b), ([0xCB#8, 0b10000001#8], .res_0_c),
    ([0xCB#8, 0b10000010#8], .res_0_d), ([0xCB#8, 0b10000011#8], .res_0_e),
    ([0xCB#8, 0b10000100#8], .res_0_h), ([0xCB#8, 0b10000101#8], .res_0_l),
    ([0xCB#8, 0b10000110#8], .res_0_mhl), ([0xCB#8, 0b10000111#8], .res_0_a),
    ([0xCB#8, 0b10001000#8], .res_1_b), ([0xCB#8, 0b10001001#8], .res_1_c),
    ([0xCB#8, 0b10001010#8], .res_1_d), ([0xCB#8, 0b10001011#8], .res_1_e),
    ([0xCB#8, 0b10001100#8], .res_1_h), ([0xCB#8, 0b10001101#8], .res_1_l),
    ([0xCB#8, 0b10001110#8], .res_1_mhl), ([0xCB#8, 0b10001111#8], .res_1_a)] :=
  ⟨rfl, rfl, rfl, rfl, rfl, rfl, rfl, rfl, rfl, rfl, rfl, rfl, rfl, rfl, rfl, rfl, trivial⟩

theorem test_decode_second_page_9x : decodes [
    ([0xCB#8, 0b10010000#8], .res_2_b), ([0xCB#8, 0b10010001#8], .res_2_c),
    ([0xCB#8, 0b10010010#8], .res_2_d), ([0xCB#8, 0b10010011#8], .res_2_e),
    ([0xCB#8, 0b10010100#8], .res_2_h), ([0xCB#8, 0b10010101#8], .res_2_l),
    ([0xCB#8, 0b10010110#8], .res_2_mhl), ([0xCB#8, 0b10010111#8], .res_2_a),
    ([0xCB#8, 0b10011000#8], .res_3_b), ([0xCB#8, 0b10011001#8], .res_3_c),
    ([0xCB#8, 0b10011010#8], .res_3_d), ([0xCB#8, 0b10011011#8], .res_3_e),
    ([0xCB#8, 0b10011100#8], .res_3_h), ([0xCB#8, 0b10011101#8], .res_3_l),
    ([0xCB#8, 0b10011110#8], .res_3_mhl), ([0xCB#8, 0b10011111#8], .res_3_a)] :=
  ⟨rfl, rfl, rfl, rfl, rfl, rfl, rfl, rfl, rfl, rfl, rfl, rfl, rfl, rfl, rfl, rfl, trivial⟩

theorem test_decode_second_page_Ax : decodes [
    ([0xCB#8, 0b10100000#8], .res_4_b), ([0xCB#8, 0b10100001#8], .res_4_c),
    ([0xCB#8, 0b10100010#8], .res_4_d), ([0xCB#8, 0b10100011#8], .res_4_e),
    ([0xCB#8, 0b10100100#8], .res_4_h), ([0xCB#8, 0b10100101#8], .res_4_l),
    ([0xCB#8, 0b10100110#8], .res_4_mhl), ([0xCB#8, 0b10100111#8], .res_4_a),
    ([0xCB#8, 0b10101000#8], .res_5_b), ([0xCB#8, 0b10101001#8], .res_5_c),
    ([0xCB#8, 0b10101010#8], .res_5_d), ([0xCB#8, 0b10101011#8], .res_5_e),
    ([0xCB#8, 0b10101100#8], .res_5_h), ([0xCB#8, 0b10101101#8], .res_5_l),
    ([0xCB#8, 0b10101110#8], .res_5_mhl), ([0xCB#8, 0b10101111#8], .res_5_a)] :=
  ⟨rfl, rfl, rfl, rfl, rfl, rfl, rfl, rfl, rfl, rfl, rfl, rfl, rfl, rfl, rfl, rfl, trivial⟩

theorem test_decode_second_page_Bx : decodes [
    ([0xCB#8, 0b10110000#8], .res_6_b), ([0xCB#8, 0b10110001#8], .res_6_c),
    ([0xCB#8, 0b10110010#8], .res_6_d), ([0xCB#8, 0b10110011#8], .res_6_e),
    ([0xCB#8, 0b10110100#8], .res_6_h), ([0xCB#8, 0b10110101#8], .res_6_l),
    ([0xCB#8, 0b10110110#8], .res_6_mhl), ([0xCB#8, 0b10110111#8], .res_6_a),
    ([0xCB#8, 0b10111000#8], .res_7_b), ([0xCB#8, 0b10111001#8], .res_7_c),
    ([0xCB#8, 0b10111010#8], .res_7_d), ([0xCB#8, 0b10111011#8], .res_7_e),
    ([0xCB#8, 0b10111100#8], .res_7_h), ([0xCB#8, 0b10111101#8], .res_7_l),
    ([0xCB#8, 0b10111110#8], .res_7_mhl), ([0xCB#8, 0b10111111#8], .res_7_a)] :=
  ⟨rfl, rfl, rfl, rfl, rfl, rfl, rfl, rfl, rfl, rfl, rfl, rfl, rfl, rfl, rfl, rfl, trivial⟩

theorem test_decode_second_page_Cx : decodes [
    ([0xCB#8, 0b11000000#8], .set_0_b), ([0xCB#8, 0b11000001#8], .set_0_c),
    ([0xCB#8, 0b11000010#8], .set_0_d), ([0xCB#8, 0b11000011#8], .set_0_e),
    ([0xCB#8, 0b11000100#8], .set_0_h), ([0xCB#8, 0b11000101#8], .set_0_l),
    ([0xCB#8, 0b11000110#8], .set_0_mhl), ([0xCB#8, 0b11000111#8], .set_0_a),
    ([0xCB#8, 0b11001000#8], .set_1_b), ([0xCB#8, 0b11001001#8], .set_1_c),
    ([0xCB#8, 0b11001010#8], .set_1_d), ([0xCB#8, 0b11001011#8], .set_1_e),
    ([0xCB#8, 0b11001100#8], .set_1_h), ([0xCB#8, 0b11001101#8], .set_1_l),
    ([0xCB#8, 0b11001110#8], .set_1_mhl), ([0xCB#8, 0b11001111#8], .set_1_a)] :=
  ⟨rfl, rfl, rfl, rfl, rfl, rfl, rfl, rfl, rfl, rfl, rfl, rfl, rfl, rfl, rfl, rfl, trivial⟩

theorem test_decode_second_page_Dx : decodes [
    ([0xCB#8, 0b11010000#8], .set_2_b), ([0xCB#8, 0b11010001#8], .set_2_c),
    ([0xCB#8, 0b11010010#8], .set_2_d), ([0xCB#8, 0b11010011#8], .set_2_e),
    ([0xCB#8, 0b11010100#8], .set_2_h), ([0xCB#8, 0b11010101#8], .set_2_l),
    ([0xCB#8, 0b11010110#8], .set_2_mhl), ([0xCB#8, 0b11010111#8], .set_2_a),
    ([0xCB#8, 0b11011000#8], .set_3_b), ([0xCB#8, 0b11011001#8], .set_3_c),
    ([0xCB#8, 0b11011010#8], .set_3_d), ([0xCB#8, 0b11011011#8], .set_3_e),
    ([0xCB#8, 0b11011100#8], .set_3_h), ([0xCB#8, 0b11011101#8], .set_3_l),
    ([0xCB#8, 0b11011110#8], .set_3_mhl), ([0xCB#8, 0b11011111#8], .set_3_a)] :=
  ⟨rfl, rfl, rfl, rfl, rfl, rfl, rfl, rfl, rfl, rfl, rfl, rfl, rfl, rfl, rfl, rfl, trivial⟩

theorem test_decode_second_page_Ex : decodes [
    ([0xCB#8, 0b11100000#8], .set_4_b), ([0xCB#8, 0b11100001#8], .set_4_c),
    ([0xCB#8, 0b11100010#8], .set_4_d), ([0xCB#8, 0b11100011#8], .set_4_e),
    ([0xCB#8, 0b11100100#8], .set_4_h), ([0xCB#8, 0b11100101#8], .set_4_l),
    ([0xCB#8, 0b11100110#8], .set_4_mhl), ([0xCB#8, 0b11100111#8], .set_4_a),
    ([0xCB#8, 0b11101000#8], .set_5_b), ([0xCB#8, 0b11101001#8], .set_5_c),
    ([0xCB#8, 0b11101010#8], .set_5_d), ([0xCB#8, 0b11101011#8], .set_5_e),
    ([0xCB#8, 0b11101100#8], .set_5_h), ([0xCB#8, 0b11101101#8], .set_5_l),
    ([0xCB#8, 0b11101110#8], .set_5_mhl), ([0xCB#8, 0b11101111#8], .set_5_a)] :=
  ⟨rfl, rfl, rfl, rfl, rfl, rfl, rfl, rfl, rfl, rfl, rfl, rfl, rfl, rfl, rfl, rfl, trivial⟩

theorem test_decode_second_page_Fx : decodes [
    ([0xCB#8, 0b11110000#8], .set_6_b), ([0xCB#8, 0b11110001#8], .set_6_c),
    ([0xCB#8, 0b11110010#8], .set_6_d), ([0xCB#8, 0b11110011#8], .set_6_e),
    ([0xCB#8, 0b11110100#8], .set_6_h), ([0xCB#8, 0b11110101#8], .set_6_l),
    ([0xCB#8, 0b11110110#8], .set_6_mhl), ([0xCB#8, 0b11110111#8], .set_6_a),
    ([0xCB#8, 0b11111000#8], .set_7_b), ([0xCB#8, 0b11111001#8], .set_7_c),
    ([0xCB#8, 0b11111010#8], .set_7_d), ([0xCB#8, 0b11111011#8], .set_7_e),
    ([0xCB#8, 0b11111100#8], .set_7_h), ([0xCB#8, 0b11111101#8], .set_7_l),
    ([0xCB#8, 0b11111110#8], .set_7_mhl), ([0xCB#8, 0b11111111#8], .set_7_a)] :=
  ⟨rfl, rfl, rfl, rfl, rfl, rfl, rfl, rfl, rfl, rfl, rfl, rfl, rfl, rfl, rfl, rfl, trivial⟩

/-- Nothing decodes, and a word cut short is refused by name. -/
theorem test_decode_refuses : decode [] = .error .noBytes ∧ decode [0x06#8] = .error .truncated ∧
    decode [0xC3#8, 0x50#8] = .error .truncated ∧ decode [0x10#8] = .error .truncated := ⟨rfl, rfl, rfl, rfl⟩

/-- The host's words: one byte, a prefixed row by its combined opcode, and a row with operand bytes. -/
theorem test_table_words : decodeTableWord 8 0x41 = some .ld_b_c ∧ decodeTableWord 16 0xCB2C = some .sra_h ∧
    decodeTableWord 8 0xCB = some .prefix_cb ∧ decodeTableWord 8 0xC3 = some (.jp_a16 0x0000#16) :=
  ⟨rfl, rfl, rfl, rfl⟩

/-- The encoder writes the low byte of a 16-bit immediate first (R154). -/
theorem test_encode_bytes : encode (.ld_hl_d16 0x1234#16) = [0x21#8, 0x34#8, 0x12#8] ∧
    encode .bit_7_mhl = [0xCB#8, 0x7E#8] ∧ encode (.jr_e8 0xFE#8) = [0x18#8, 0xFE#8] := by decide

/-! ## WellFormed -/

theorem test_wellformed_refuses_the_prefix : Instr.wellFormed .prefix_cb = false := by decide

theorem test_wellformed_refuses_illegal_codes :
    [Instr.illegal_d3, .illegal_db, .illegal_dd, .illegal_e3, .illegal_e4, .illegal_eb, .illegal_ec, .illegal_ed,
      .illegal_f4, .illegal_fc, .illegal_fd].all (fun i => !i.wellFormed) = true := by decide

theorem test_wellformed_accepts : (Instr.wellFormed .stop && Instr.wellFormed (.jp_a16 0xFFFF#16) &&
    Instr.wellFormed .set_7_a) = true := by decide

theorem test_config_defaults_are_legal : (Config.defaults false).wf = true ∧ (Config.defaults true).wf = true := by
  decide

/-- The overlay may not reach into video RAM (R81). -/
theorem test_config_refuses_a_long_overlay :
    { Config.defaults false with bootRanges := [(0x7FFF, 0x8001)] }.bootOk = false := by decide

/-- A collaborator may not own an intercepted port (R98). -/
theorem test_config_refuses_an_owned_intercept :
    { Config.defaults false with videoOwned := [(0xFF40, 0xFF47)] }.ownersOk = false := by decide

/-- The two owned sets are disjoint (R98). -/
theorem test_config_refuses_an_overlap :
    { Config.defaults false with videoOwned := [(0xFF3F, 0xFF41)] }.ownersOk = false := by decide

/-- Owned ports lie in the I/O window (R98). -/
theorem test_config_refuses_an_owner_outside :
    { Config.defaults false with audioOwned := [(0xFF10, 0xFF81)] }.ownersOk = false := by decide

/-- Every cost is greater than 0 (R166). -/
theorem test_config_refuses_a_free_opcode :
    { Config.defaults false with cycles := [(0x00, ⟨0, 4⟩)] }.costsOk = false := by decide

/-! ## Start states -/

/-- The start of the vectors of 95_test_vectors.md: no overlay, PC in work RAM; the stall is its example value. -/
def base : State :=
  { State.resetWith { Config.defaults false with bootRanges := [], speedSwitchStall := 8200 } with
    pc := 0xC000, sp := 0xDFF0 }

/-- The same on the variant with CGB_MODE. -/
def baseCgb : State :=
  { base with cfg := { base.cfg with cgbMode := true, videoOwned := [(0xFF68, 0xFF6C)] } }

/-- Instruction bytes in work RAM at 0xC000. -/
def wram (bs : List Byte) : State := base.placeBytes 0xC000 bs

/-- One step answers a next state with property `p`. -/
def after (s : State) (p : State → Bool) : Bool :=
  match step s with
  | .next t => p t
  | _ => false

/-! ## One-step vectors of 95_test_vectors.md -/

theorem test_L1_ld_b_c : after ({ wram [0x41] with b := 0x01, c := 0x5A, f := 0xF0 }) (fun t =>
    t.b == 0x5A && t.f == 0xF0 && t.pc == 0xC001 && t.returned == some 4) = true := by decide

theorem test_L3_ld_d_d8 : after ({ wram [0x16, 0xAB] with f := 0xA0 }) (fun t =>
    t.d == 0xAB && t.pc == 0xC002 && t.f == 0xA0 && t.returned == some 8) = true := by decide

theorem test_L4_ld_h_mhl : after (({ wram [0x66] with h := 0xC1, l := 0x02 }).placeByte 0xC102 0x99) (fun t =>
    t.h == 0x99 && t.pc == 0xC001 && t.f == 0x00 && t.returned == some 8) = true := by decide

theorem test_L5_ld_mhl_e : after ({ wram [0x73] with h := 0xC1, l := 0x02, e := 0x42 }) (fun t =>
    t.mem.read 0xC102 == 0x42 && t.pc == 0xC001 && t.f == 0x00 && t.returned == some 8) = true := by decide

theorem test_L6_ld_mhl_d8 : after ({ wram [0x36, 0x7E] with h := 0xC1, l := 0x02 }) (fun t =>
    t.mem.read 0xC102 == 0x7E && t.pc == 0xC002 && t.f == 0x00 && t.returned == some 12) = true := by decide

theorem test_L8_ld_a_mde : after (({ wram [0x1A] with d := 0xE1, e := 0x03 }).placeByte 0xC103 0x22) (fun t =>
    t.a == 0x22 && t.pc == 0xC001 && t.f == 0x00 && t.returned == some 8) = true := by decide

theorem test_L10_ld_mde_a : after ({ wram [0x12] with d := 0xFD, e := 0xFF, a := 0x44 }) (fun t =>
    t.mem.read 0x1DDFF == 0x44 && t.pc == 0xC001 && t.f == 0x00 && t.returned == some 8) = true := by decide

theorem test_L12_ld_mhli_a : after ({ wram [0x22] with h := 0xFF, l := 0xFF, a := 0x55 }) (fun t =>
    t.ie == 0x55 && t.hl == 0x0000 && t.pc == 0xC001 && t.f == 0x00 && t.returned == some 8) = true := by decide

theorem test_L15_ld_a_mhld : after (({ wram [0x3A] with h := 0x00, l := 0x00 }).placeByte 0x0000 0x3C) (fun t =>
    t.a == 0x3C && t.hl == 0xFFFF && t.pc == 0xC001 && t.f == 0x00 && t.returned == some 8) = true := by decide

theorem test_L16_ldh_ma8_a : after ({ wram [0xE0, 0x80] with a := 0x9C }) (fun t =>
    t.mem.read 0xFF80 == 0x9C && t.pc == 0xC002 && t.f == 0x00 && t.returned == some 12) = true := by decide

theorem test_L17_ldh_a_ma8 : after ({ wram [0xF0, 0xFF] with ie := 0x15 }) (fun t =>
    t.a == 0x15 && t.pc == 0xC002 && t.f == 0x00 && t.returned == some 12) = true := by decide

theorem test_L18_ld_mc_a : after ({ wram [0xE2] with c := 0x06, a := 0xAB }) (fun t =>
    t.io 0x06 == 0xAB && t.pc == 0xC001 && t.f == 0x00 && t.returned == some 8) = true := by decide

theorem test_L19_ld_a_mc : after ((({ wram [0xF2] with c := 0x00 }).setIo 0x00 0x20).placeByte 0xFF00 0xDE) (fun t =>
    t.a == 0xDE && t.pc == 0xC001 && t.f == 0x00 && t.returned == some 8) = true := by decide

theorem test_L20_ld_ma16_a : after (({ wram [0xEA, 0x04, 0xFF] with a := 0x5A }).setIo 0x04 0x77) (fun t =>
    t.io 0x04 == 0x00 && t.pc == 0xC003 && t.f == 0x00 && t.returned == some 16) = true := by decide

theorem test_L21_ld_a_ma16 : after ((wram [0xFA, 0x34, 0x12]).placeByte 0x1234 0xC9) (fun t =>
    t.a == 0xC9 && t.pc == 0xC003 && t.f == 0x00 && t.returned == some 16) = true := by decide

theorem test_W1_ld_bc_d16 : after ({ wram [0x01, 0x34, 0x12] with f := 0xF0 }) (fun t =>
    t.b == 0x12 && t.c == 0x34 && t.f == 0xF0 && t.pc == 0xC003 && t.returned == some 12) = true := by decide

theorem test_W3_ld_sp_hl : after ({ wram [0xF9] with h := 0xC1, l := 0x23 }) (fun t =>
    t.sp == 0xC123 && t.pc == 0xC001 && t.f == 0x00 && t.returned == some 8) = true := by decide

theorem test_W4_ld_ma16_sp : after ({ wram [0x08, 0x00, 0xC1] with sp := 0xDFF0 }) (fun t =>
    t.mem.read 0xC100 == 0xF0 && t.mem.read 0xC101 == 0xDF && t.pc == 0xC003 && t.f == 0x00 &&
      t.returned == some 20) = true := by decide

theorem test_W5_ld_hl_sp_e8 : after ({ wram [0xF8, 0x08] with sp := 0xFFF8, f := 0xC0 }) (fun t =>
    t.hl == 0x0000 && t.f == 0x30 && t.pc == 0xC002 && t.returned == some 12) = true := by decide

theorem test_W8_ld_hl_sp_e8 : after ({ wram [0xF8, 0xFE] with sp := 0xD001 }) (fun t =>
    t.hl == 0xCFFF && t.f == 0x00 && t.pc == 0xC002 && t.returned == some 12) = true := by decide

theorem test_W11_push_af : after ({ wram [0xF5] with a := 0x12, f := 0xF0 }) (fun t =>
    t.mem.read 0x1DFEF == 0x12 && t.mem.read 0x1DFEE == 0xF0 && t.sp == 0xDFEE && t.pc == 0xC001 && t.f == 0xF0 &&
      t.returned == some 16) = true := by decide

theorem test_W12_pop_af :
    after ((({ wram [0xF1] with sp := 0xC100 }).placeByte 0xC100 0xFF).placeByte 0xC101 0x12) (fun t =>
    t.a == 0x12 && t.f == 0xF0 && t.sp == 0xC102 && t.pc == 0xC001 && t.returned == some 12) = true := by decide

theorem test_W13_push_hl : after ({ wram [0xE5] with sp := 0x0001, h := 0xAA, l := 0xBB }) (fun t =>
    t.ie == 0xBB && t.sp == 0xFFFF && t.pc == 0xC001 && t.calls == [.romWrite 0x0000 0xAA] && t.f == 0x00 &&
      t.returned == some 16) = true := by decide

theorem test_A1_add_a_b : after ({ wram [0x80] with a := 0x3A, b := 0xC6 }) (fun t =>
    t.a == 0x00 && t.f == 0xB0 && t.pc == 0xC001 && t.returned == some 4) = true := by decide

theorem test_A5_adc_a_d8 : after ({ wram [0xCE, 0xFF] with a := 0x00, f := 0x10 }) (fun t =>
    t.a == 0x00 && t.f == 0xB0 && t.pc == 0xC002 && t.returned == some 8) = true := by decide

theorem test_A7_adc_a_mhl :
    after (({ wram [0x8E] with a := 0xE1, h := 0xC1, l := 0x00, f := 0x10 }).placeByte 0xC100 0x1E) (fun t =>
    t.a == 0x00 && t.f == 0xB0 && t.pc == 0xC001 && t.returned == some 8) = true := by decide

theorem test_A9_sub_d8 : after ({ wram [0xD6, 0x0F] with a := 0x3E }) (fun t =>
    t.a == 0x2F && t.f == 0x60 && t.pc == 0xC002 && t.returned == some 8) = true := by decide

theorem test_A14_sbc_a_mhl :
    after (({ wram [0x9E] with a := 0x3B, h := 0xC1, l := 0x00, f := 0x10 }).placeByte 0xC100 0x4F) (fun t =>
    t.a == 0xEB && t.f == 0x70 && t.pc == 0xC001 && t.returned == some 8) = true := by decide

theorem test_A15_and_l : after ({ wram [0xA5] with a := 0x5A, l := 0x3F, f := 0x50 }) (fun t =>
    t.a == 0x1A && t.f == 0x20 && t.pc == 0xC001 && t.returned == some 4) = true := by decide

theorem test_A18_xor_d8 : after ({ wram [0xEE, 0x0F] with a := 0xFF, f := 0xF0 }) (fun t =>
    t.a == 0xF0 && t.f == 0x00 && t.pc == 0xC002 && t.returned == some 8) = true := by decide

theorem test_A20_or_mhl :
    after (({ wram [0xB6] with a := 0x5A, h := 0xC1, l := 0x00, f := 0xF0 }).placeByte 0xC100 0x0F) (fun t =>
    t.a == 0x5F && t.f == 0x00 && t.pc == 0xC001 && t.returned == some 8) = true := by decide

theorem test_A21_cp_b : after ({ wram [0xB8] with a := 0x3C, b := 0x2F }) (fun t =>
    t.a == 0x3C && t.f == 0x60 && t.pc == 0xC001 && t.returned == some 4) = true := by decide

theorem test_A24_inc_a : after ({ wram [0x3C] with a := 0xFF, f := 0x10 }) (fun t =>
    t.a == 0x00 && t.f == 0xB0 && t.pc == 0xC001 && t.returned == some 4) = true := by decide

theorem test_A26_inc_mhl :
    after (({ wram [0x34] with h := 0xC1, l := 0x00, f := 0x10 }).placeByte 0xC100 0x50) (fun t =>
    t.mem.read 0xC100 == 0x51 && t.f == 0x10 && t.pc == 0xC001 && t.returned == some 12) = true := by decide

theorem test_A28_dec_l : after ({ wram [0x2D] with l := 0x01, f := 0x10 }) (fun t =>
    t.l == 0x00 && t.f == 0xD0 && t.pc == 0xC001 && t.returned == some 4) = true := by decide

theorem test_A30_dec_mhl : after (({ wram [0x35] with h := 0xC1, l := 0x00 }).placeByte 0xC100 0x00) (fun t =>
    t.mem.read 0xC100 == 0xFF && t.f == 0x60 && t.pc == 0xC001 && t.returned == some 12) = true := by decide

theorem test_A34_daa : after ({ wram [0x27] with a := 0x00, f := 0x00 }) (fun t =>
    t.a == 0x00 && t.f == 0x80 && t.pc == 0xC001 && t.returned == some 4) = true := by decide

theorem test_A35_daa : after ({ wram [0x27] with a := 0x00, f := 0x70 }) (fun t =>
    t.a == 0x9A && t.f == 0x50 && t.pc == 0xC001 && t.returned == some 4) = true := by decide

theorem test_A37_cpl : after ({ wram [0x2F] with a := 0x35, f := 0x90 }) (fun t =>
    t.a == 0xCA && t.f == 0xF0 && t.pc == 0xC001 && t.returned == some 4) = true := by decide

theorem test_A38_scf : after ({ wram [0x37] with f := 0xE0 }) (fun t =>
    t.f == 0x90 && t.pc == 0xC001 && t.returned == some 4) = true := by decide

theorem test_A39_ccf : after ({ wram [0x3F] with f := 0xF0 }) (fun t =>
    t.f == 0x80 && t.pc == 0xC001 && t.returned == some 4) = true := by decide

theorem test_X1_inc_bc : after ({ wram [0x03] with b := 0xFF, c := 0xFF, f := 0xF0 }) (fun t =>
    t.bc == 0x0000 && t.f == 0xF0 && t.pc == 0xC001 && t.returned == some 8) = true := by decide

theorem test_X4_dec_de : after ({ wram [0x1B] with d := 0x10, e := 0x00, f := 0xF0 }) (fun t =>
    t.de == 0x0FFF && t.f == 0xF0 && t.pc == 0xC001 && t.returned == some 8) = true := by decide

theorem test_X5_add_hl_bc :
    after ({ wram [0x09] with h := 0x8A, l := 0x23, b := 0x06, c := 0x05, f := 0xC0 }) (fun t =>
    t.hl == 0x9028 && t.f == 0xA0 && t.pc == 0xC001 && t.returned == some 8) = true := by decide

theorem test_X8_add_hl_sp : after ({ wram [0x39] with h := 0x0F, l := 0xFF, sp := 0x0001, f := 0x50 }) (fun t =>
    t.hl == 0x1000 && t.f == 0x20 && t.pc == 0xC001 && t.returned == some 8) = true := by decide

theorem test_X9_add_sp_e8 : after ({ wram [0xE8, 0x02] with sp := 0xFFF8, f := 0xF0 }) (fun t =>
    t.sp == 0xFFFA && t.f == 0x00 && t.pc == 0xC002 && t.returned == some 16) = true := by decide

theorem test_X13_add_sp_e8 : after ({ wram [0xE8, 0x80] with sp := 0xD080 }) (fun t =>
    t.sp == 0xD000 && t.f == 0x10 && t.pc == 0xC002 && t.returned == some 16) = true := by decide

theorem test_B1_rlca : after ({ wram [0x07] with a := 0x85, f := 0xE0 }) (fun t =>
    t.a == 0x0B && t.f == 0x10 && t.pc == 0xC001 && t.returned == some 4) = true := by decide

theorem test_B2_rlca : after ({ wram [0x07] with a := 0x00, f := 0xF0 }) (fun t =>
    t.a == 0x00 && t.f == 0x00 && t.pc == 0xC001 && t.returned == some 4) = true := by decide

theorem test_B3_rrca : after ({ wram [0x0F] with a := 0x3B, f := 0x80 }) (fun t =>
    t.a == 0x9D && t.f == 0x10 && t.pc == 0xC001 && t.returned == some 4) = true := by decide

theorem test_B4_rla : after ({ wram [0x17] with a := 0x95, f := 0x10 }) (fun t =>
    t.a == 0x2B && t.f == 0x10 && t.pc == 0xC001 && t.returned == some 4) = true := by decide

theorem test_B6_rra : after ({ wram [0x1F] with a := 0x81 }) (fun t =>
    t.a == 0x40 && t.f == 0x10 && t.pc == 0xC001 && t.returned == some 4) = true := by decide

theorem test_B9_rlc_mhl :
    after (({ wram [0xCB, 0x06] with h := 0xC1, l := 0x00, f := 0x70 }).placeByte 0xC100 0x00) (fun t =>
    t.mem.read 0xC100 == 0x00 && t.f == 0x80 && t.pc == 0xC002 && t.returned == some 16) = true := by decide

theorem test_B10_rrc_c : after ({ wram [0xCB, 0x09] with c := 0x01 }) (fun t =>
    t.c == 0x80 && t.f == 0x10 && t.pc == 0xC002 && t.returned == some 8) = true := by decide

theorem test_B12_rl_mhl :
    after (({ wram [0xCB, 0x16] with h := 0xC1, l := 0x00, f := 0x10 }).placeByte 0xC100 0x11) (fun t =>
    t.mem.read 0xC100 == 0x23 && t.f == 0x00 && t.pc == 0xC002 && t.returned == some 16) = true := by decide

theorem test_B13_rr_a : after ({ wram [0xCB, 0x1F] with a := 0x01 }) (fun t =>
    t.a == 0x00 && t.f == 0x90 && t.pc == 0xC002 && t.returned == some 8) = true := by decide

theorem test_B16_sla_mhl :
    after (({ wram [0xCB, 0x26] with h := 0xC1, l := 0x00, f := 0x10 }).placeByte 0xC100 0xFF) (fun t =>
    t.mem.read 0xC100 == 0xFE && t.f == 0x10 && t.pc == 0xC002 && t.returned == some 16) = true := by decide

theorem test_B17_sra_a : after ({ wram [0xCB, 0x2F] with a := 0x8A, f := 0x10 }) (fun t =>
    t.a == 0xC5 && t.f == 0x00 && t.pc == 0xC002 && t.returned == some 8) = true := by decide

theorem test_B20_swap_mhl :
    after (({ wram [0xCB, 0x36] with h := 0xC1, l := 0x00, f := 0x10 }).placeByte 0xC100 0x00) (fun t =>
    t.mem.read 0xC100 == 0x00 && t.f == 0x80 && t.pc == 0xC002 && t.returned == some 16) = true := by decide

theorem test_B22_srl_mhl : after (({ wram [0xCB, 0x3E] with h := 0xC1, l := 0x00 }).placeByte 0xC100 0xFF) (fun t =>
    t.mem.read 0xC100 == 0x7F && t.f == 0x10 && t.pc == 0xC002 && t.returned == some 16) = true := by decide

theorem test_B23_bit_7_a : after ({ wram [0xCB, 0x7F] with a := 0x80, f := 0x50 }) (fun t =>
    t.f == 0x30 && t.pc == 0xC002 && t.returned == some 8) = true := by decide

theorem test_B25_bit_0_mhl :
    after (({ wram [0xCB, 0x46] with h := 0xC1, l := 0x00, f := 0x10 }).placeByte 0xC100 0xFE) (fun t =>
    t.f == 0xB0 && t.pc == 0xC002 && t.returned == some 12) = true := by decide

theorem test_B28_res_1_l : after ({ wram [0xCB, 0x8D] with l := 0x3B }) (fun t =>
    t.l == 0x39 && t.pc == 0xC002 && t.f == 0x00 && t.returned == some 8) = true := by decide

theorem test_B29_res_3_mhl :
    after (({ wram [0xCB, 0x9E] with h := 0xC1, l := 0x00, f := 0xA0 }).placeByte 0xC100 0xFF) (fun t =>
    t.mem.read 0xC100 == 0xF7 && t.f == 0xA0 && t.pc == 0xC002 && t.returned == some 16) = true := by decide

theorem test_B30_set_3_a : after ({ wram [0xCB, 0xDF] with a := 0x80, f := 0xF0 }) (fun t =>
    t.a == 0x88 && t.f == 0xF0 && t.pc == 0xC002 && t.returned == some 8) = true := by decide

theorem test_B32_set_3_mhl :
    after (({ wram [0xCB, 0xDE] with h := 0xC1, l := 0x00, f := 0x50 }).placeByte 0xC100 0x00) (fun t =>
    t.mem.read 0xC100 == 0x08 && t.f == 0x50 && t.pc == 0xC002 && t.returned == some 16) = true := by decide

theorem test_J1_jp_a16 : after ({ wram [0xC3, 0x50, 0x01] with f := 0xF0 }) (fun t =>
    t.pc == 0x0150 && t.f == 0xF0 && t.returned == some 16) = true := by decide

theorem test_J3_jp_nz_a16 : after ({ wram [0xC2, 0x50, 0x01] with f := 0x80 }) (fun t =>
    t.pc == 0xC003 && t.f == 0x80 && t.returned == some 12) = true := by decide

theorem test_J4_jp_z_a16 : after ({ wram [0xCA, 0x50, 0x01] with f := 0x80 }) (fun t =>
    t.pc == 0x0150 && t.f == 0x80 && t.returned == some 16) = true := by decide

theorem test_J7_jp_hl : after ({ wram [0xE9] with h := 0xC1, l := 0x23 }) (fun t =>
    t.pc == 0xC123 && t.f == 0x00 && t.returned == some 4) = true := by decide

theorem test_J10_jr_e8 : after (wram [0x18, 0x80]) (fun t =>
    t.pc == 0xBF82 && t.f == 0x00 && t.returned == some 12) = true := by decide

theorem test_J12_jr_nz_e8 : after ({ wram [0x20, 0xFB] with f := 0x70 }) (fun t =>
    t.pc == 0xBFFD && t.f == 0x70 && t.returned == some 12) = true := by decide

theorem test_J16_jr_c_e8 : after ({ wram [0x38, 0x02] with f := 0xE0 }) (fun t =>
    t.pc == 0xC002 && t.f == 0xE0 && t.returned == some 8) = true := by decide

theorem test_J17_call_a16 : after ({ wram [0xCD, 0x34, 0x12] with sp := 0xDFF0 }) (fun t =>
    t.mem.read 0x1DFEF == 0xC0 && t.mem.read 0x1DFEE == 0x03 && t.sp == 0xDFEE && t.pc == 0x1234 && t.f == 0x00 &&
      t.returned == some 24) = true := by decide

theorem test_J19_call_z_a16 : after ({ wram [0xCC, 0x34, 0x12] with f := 0x00 }) (fun t =>
    t.pc == 0xC003 && t.f == 0x00 && t.returned == some 12) = true := by decide

theorem test_J21_ret :
    after ((({ wram [0xC9] with sp := 0xC100 }).placeByte 0xC100 0x03).placeByte 0xC101 0xC0) (fun t =>
    t.pc == 0xC003 && t.sp == 0xC102 && t.f == 0x00 && t.returned == some 16) = true := by decide

theorem test_J23_ret_z :
    after ((({ wram [0xC8] with sp := 0xC100, f := 0x00 }).placeByte 0xC100 0x03).placeByte 0xC101 0xC0) (fun t =>
    t.pc == 0xC001 && t.sp == 0xC100 && t.f == 0x00 && t.returned == some 8) = true := by decide

theorem test_J25_ret_c :
    after ((({ wram [0xD8] with sp := 0xC100, f := 0x10 }).placeByte 0xC100 0x03).placeByte 0xC101 0xC0) (fun t =>
    t.pc == 0xC003 && t.sp == 0xC102 && t.f == 0x10 && t.returned == some 20) = true := by decide

theorem test_J26_reti :
    after ((({ wram [0xD9] with sp := 0xC100, ime := false }).placeByte 0xC100 0x03).placeByte 0xC101 0xC0) (fun t =>
    t.pc == 0xC003 && t.sp == 0xC102 && t.ime && t.f == 0x00 && t.returned == some 16) = true := by decide

theorem test_J27_rst_28h : after ({ wram [0xEF] with sp := 0xDFF0 }) (fun t =>
    t.mem.read 0x1DFEF == 0xC0 && t.mem.read 0x1DFEE == 0x01 && t.sp == 0xDFEE && t.pc == 0x0028 && t.f == 0x00 &&
      t.returned == some 16) = true := by decide

theorem test_Y1_nop : after ({ wram [0x00] with f := 0xF0 }) (fun t =>
    t.pc == 0xC001 && t.f == 0xF0 && t.returned == some 4) = true := by decide

theorem test_Y2_di : after ({ wram [0xF3] with ime := true }) (fun t =>
    !t.ime && t.pc == 0xC001 && t.f == 0x00 && t.returned == some 4) = true := by decide

theorem test_Y3_ei : after ({ wram [0xFB] with ime := false }) (fun t =>
    t.ime && t.pc == 0xC001 && t.f == 0x00 && t.returned == some 4) = true := by decide

theorem test_Y5_halt : after ((wram [0x76]).setIo 0x0F 0x00) (fun t =>
    t.hsnap == 0x00 && t.pc == 0xC001 && t.run == .halted && t.f == 0x00 && t.returned == some 4) = true := by decide

theorem test_Y11_stop : after ((wram [0x10, 0x00]).setIo 0x4D 0x01) (fun t =>
    t.pc == 0xC002 && t.run == .stopped && t.f == 0x00 && t.returned == some 4) = true := by decide

/-! ## The engine, the timer and the router -/

theorem test_Y8_stop : after (wram [0x10, 0x00]) (fun t =>
    t.run == .stopped && t.pc == 0xC002 && t.divAcc == 4 && t.returned == some 4) = true := by decide

theorem test_Y9_speed_switch : after ((baseCgb.placeBytes 0xC000 [0x10, 0x00]).setIo 0x4D 0x01) (fun t =>
    t.speed && !t.speedPend && t.io 0x4D == 0x80 && t.io 0x04 == 0x20 && t.divAcc == 16 && t.timAcc == 4 &&
      t.run == .running && t.returned == some 4) = true := by decide

theorem test_Y12_illegal : after ({ wram [0xDD] with a := 0x01, f := 0x10 }) (fun t =>
    t.fault == some ⟨0xC000, 0xDD⟩ && t.pc == 0xC000 && t.a == 0x01 && t.f == 0x10 && t.divAcc == 0 &&
      t.returned == none) = true := by decide

/-- The start of the interrupt vectors: a NOP at 0xC000 and the cartridge answering 0x00 at the vectors. -/
def interrupted (ie req : Byte) (ime : Bool) : State :=
  { (wram [0x00]).setIo 0x0F req with ie := ie, ime := ime
                                      known := [(0x40, 0), (0x41, 0), (0x42, 0), (0x60, 0), (0x61, 0), (0x62, 0)] }

theorem test_I1_lowest_source : after (interrupted 0x1F 0x1F true) (fun t =>
    t.mem.read 0x1DFEF == 0xC0 && t.mem.read 0x1DFEE == 0x00 && t.sp == 0xDFEE && t.ifReg == 0x1E && !t.ime &&
      t.pc == 0x0041 && t.returned == some 24) = true := by decide

theorem test_I3_only_five_sources : after (interrupted 0xE0 0xE0 true) (fun t =>
    t.pc == 0xC001 && t.ime && t.returned == some 4) = true := by decide

theorem test_I4_not_invoked : after (interrupted 0x1F 0x1F false) (fun t =>
    t.pc == 0xC001 && t.ifReg == 0x1F && t.returned == some 4) = true := by decide

theorem test_I6_upper_bits_kept : after (interrupted 0xFF 0xF0 true) (fun t =>
    t.ifReg == 0xE0 && t.pc == 0x0061 && t.returned == some 24) = true := by decide

/-- The policy `refuse` (R406), the one refusal of the machine. -/
def bypass : State :=
  { interrupted 0x01 0x01 false with hsnap := 0x02, cfg := { base.cfg with imeBypass := .refuse } }

theorem test_bypass_is_refused : step bypass = .refused .imeBypass := rfl

/-- The prefix row runs the handler of the byte behind it (S10: SWAP A). -/
theorem test_S10_prefix : (match exec .prefix_cb { wram [0xCB, 0x37] with a := 0xF1 } with
    | .next t => t.a == 0x1F && t.pc == 0xC002 && t.elapsed == 8
    | _ => false) = true := by decide

/-- The first and the last byte of the DMA copy of page C1. -/
theorem test_S6_dma : (let t := [0, 159].foldl (State.dmaByte 0xC1) ((base.store 0xC100 0x01).store 0xC19F 0xDE)
    t.mem.read 0xFE00 == 0x01 && t.mem.read 0xFE9F == 0xDE) = true := by decide

theorem test_S7_counter : (let t := (((base.setIo 0x07 0x05).setIo 0x05 0xFF).setIo 0x06 0xAB).timerAdvance 16
    t.io 0x05 == 0xAB && t.ifReg == 0x04 && t.timAcc == 0) = true := by decide

theorem test_S8_divider : (({ base with divAcc := 252 }.timerAdvance 4).io 0x04 == 0x01 &&
    ({ baseCgb with divAcc := 248, speed := true }.timerAdvance 4).io 0x04 == 0x01 &&
    ({ base with divAcc := 248 }.timerAdvance 4).io 0x04 == 0x00) = true := by decide

theorem test_S9_echo : ((base.memWrite 0xC123 0x5A).memRead 0xE123 == 0x5A &&
    (base.memWrite 0xE200 0x77).memRead 0xC200 == 0x77 &&
    (base.memWrite 0xFDFF 0x99).memRead 0xDDFF == 0x99) = true := by decide

/-- The host's word is what the next step runs. -/
theorem test_withFetchWord : after ((State.withFetchWord { base with a := 0xF1 } 16 0xCB37)) (fun t =>
    t.a == 0x1F && t.pc == 0xC002) = true := by decide

/-- The first instruction after reset, placed in the overlay. -/
theorem test_first_instruction_after_reset : after (State.withFetchWord State.reset 8 0x3C) (fun t =>
    t.a == 0x01 && t.pc == 0x0001) = true := by decide

/-! ## Witnesses: values that meet the hypotheses of each statement -/

theorem test_witness_DecodeInvertsEncode : Instr.wellFormed .nop = true ∧ Instr.wellFormed .stop = true ∧
    Instr.wellFormed .set_7_a = true := by decide

theorem test_witness_EncodeInvertsDecode : decode [0x10#8, 0x5A#8] = .ok (.stop, []) ∧
    decode [0xCB#8, 0xFF#8, 0x00#8] = .ok (.set_7_a, [0x00#8]) ∧ Instr.wellFormed .set_7_a = true :=
  ⟨rfl, rfl, rfl⟩

theorem test_witness_LoadRegister : Instr.form .ld_b_b = .ldRegReg .b .b ∧ Instr.form .ld_a_l = .ldRegReg .a .l ∧
    Instr.form (.ld_h_d8 0xFF#8) = .ldRegImm .h 0xFF#8 ∧ Instr.form .ld_l_mhl = .ldRegMem .l :=
  ⟨rfl, rfl, rfl, rfl⟩

theorem test_witness_StoreAtHl : Instr.form .ld_mhl_b = .ldMemReg .b ∧ Instr.form .ld_mhl_a = .ldMemReg .a ∧
    Instr.form (.ld_mhl_d8 0x7E#8) = .ldMemImm 0x7E#8 := ⟨rfl, rfl, rfl⟩

theorem test_witness_LoadAccumulator : Instr.form .ld_a_mbc = .ldA .bc ∧ Instr.form .ld_a_mde = .ldA .de ∧
    Instr.form (.ld_a_ma16 0xFFFF#16) = .ldA (.abs 0xFFFF#16) ∧ Instr.form (.ldh_a_ma8 0xFF#8) = .ldA (.high 0xFF#8) ∧
    Instr.form .ld_a_mc = .ldA .highC ∧ Instr.form .ld_a_mhli = .ldA .hlInc ∧ Instr.form .ld_a_mhld = .ldA .hlDec :=
  ⟨rfl, rfl, rfl, rfl, rfl, rfl, rfl⟩

theorem test_witness_StoreAccumulator : Instr.form .ld_mbc_a = .stA .bc ∧ Instr.form .ld_mde_a = .stA .de ∧
    Instr.form (.ld_ma16_a 0xFFFF#16) = .stA (.abs 0xFFFF#16) ∧ Instr.form (.ldh_ma8_a 0xFF#8) = .stA (.high 0xFF#8) ∧
    Instr.form .ld_mc_a = .stA .highC ∧ Instr.form .ld_mhli_a = .stA .hlInc ∧ Instr.form .ld_mhld_a = .stA .hlDec :=
  ⟨rfl, rfl, rfl, rfl, rfl, rfl, rfl⟩

theorem test_witness_LoadPair : Instr.form (.ld_bc_d16 0x1234#16) = .ldPairImm .bc 0x1234#16 ∧
    Instr.form (.ld_sp_d16 0xFFFE#16) = .ldPairImm .sp 0xFFFE#16 ∧ Instr.form .ld_sp_hl = .ldSpHl := ⟨rfl, rfl, rfl⟩

theorem test_witness_StoreStackPointer : Instr.form (.ld_ma16_sp 0xFFFF#16) = .ldAbsSp 0xFFFF#16 := rfl

theorem test_witness_StackPointerPlusDisplacement : Instr.form (.ld_hl_sp_e8 0x80#8) = .ldHlSp 0x80#8 ∧
    Instr.form (.add_sp_e8 0x7F#8) = .addSp 0x7F#8 := ⟨rfl, rfl⟩

theorem test_witness_PushStoresHighByteFirst : Instr.form .push_bc = .push .bc ∧ Instr.form .push_af = .push .af ∧
    ({ base with f := 0xF0 } : State).f &&& 0x0F#8 = 0#8 := ⟨rfl, rfl, rfl⟩

theorem test_witness_PopLoadsLowByteFirst : Instr.form .pop_bc = .pop .bc ∧ Instr.form .pop_de = .pop .de ∧
    Instr.form .pop_hl = .pop .hl ∧ Instr.form .pop_af = .pop .af := ⟨rfl, rfl, rfl, rfl⟩

theorem test_witness_PopReturnsWhatPushStored : ({ base with sp := 0xFFFF }).mem.wf = true ∧ base.cfg.wf = true ∧
    ramAddress (0xFFFF#16 - 1) = true ∧ ramAddress (0xFFFF#16 - 2) = true ∧
    ramAddress (0x8002#16 - 1) = true ∧ ramAddress (0x8002#16 - 2) = true := by decide

theorem test_witness_AddToAccumulator : Instr.form .add_a_b = .alu .add (.reg .b) ∧
    Instr.form .adc_a_mhl = .alu .adc .mem ∧ Instr.form (.adc_a_d8 0xFF#8) = .alu .adc (.imm 0xFF#8) := ⟨rfl, rfl, rfl⟩

theorem test_witness_SubtractFromAccumulator : Instr.form .sub_a = .alu .sub (.reg .a) ∧
    Instr.form .sbc_a_mhl = .alu .sbc .mem ∧ Instr.form (.cp_d8 0xFF#8) = .alu .cp (.imm 0xFF#8) := ⟨rfl, rfl, rfl⟩

theorem test_witness_LogicOnAccumulator : Instr.form .and_b = .alu .and (.reg .b) ∧
    Instr.form .xor_mhl = .alu .xor .mem ∧ Instr.form (.or_d8 0x00#8) = .alu .or (.imm 0x00#8) := ⟨rfl, rfl, rfl⟩

theorem test_witness_IncrementDecrementRegister : Instr.form .inc_b = .incReg .b ∧ Instr.form .dec_a = .decReg .a :=
  ⟨rfl, rfl⟩

theorem test_witness_IncrementDecrementMemory : Instr.form .inc_mhl = .incMem ∧ Instr.form .dec_mhl = .decMem :=
  ⟨rfl, rfl⟩

theorem test_witness_DecimalAdjust : Instr.form .daa = .daa := rfl

theorem test_witness_ComplementAndCarryFlag : Instr.form .cpl = .cpl ∧ Instr.form .scf = .scf ∧
    Instr.form .ccf = .ccf := ⟨rfl, rfl, rfl⟩

theorem test_witness_IncrementDecrementPair : Instr.form .inc_bc = .incPair .bc ∧ Instr.form .dec_sp = .decPair .sp :=
  ⟨rfl, rfl⟩

theorem test_witness_AddToHl : Instr.form .add_hl_bc = .addHl .bc ∧ Instr.form .add_hl_hl = .addHl .hl ∧
    Instr.form .add_hl_sp = .addHl .sp := ⟨rfl, rfl, rfl⟩

theorem test_witness_AccumulatorRotates : Instr.form .rlca = .accRot .rlca ∧ Instr.form .rrca = .accRot .rrca ∧
    Instr.form .rla = .accRot .rla ∧ Instr.form .rra = .accRot .rra := ⟨rfl, rfl, rfl, rfl⟩

theorem test_witness_PrefixedRotates : Instr.form .rlc_b = .rot .rlc (.reg .b) ∧
    Instr.form .srl_a = .rot .srl (.reg .a) ∧ Instr.form .swap_mhl = .rot .swap .mem := ⟨rfl, rfl, rfl⟩

theorem test_witness_TestBit : Instr.form .bit_0_b = .bit 0 (.reg .b) ∧ Instr.form .bit_7_mhl = .bit 7 .mem :=
  ⟨rfl, rfl⟩

theorem test_witness_ClearAndSetBit : Instr.form .res_0_b = .res 0 (.reg .b) ∧ Instr.form .res_7_mhl = .res 7 .mem ∧
    Instr.form .set_0_mhl = .set 0 .mem ∧ Instr.form .set_7_a = .set 7 (.reg .a) := ⟨rfl, rfl, rfl, rfl⟩

theorem test_witness_UnconditionalJumps : Instr.form (.jp_a16 0xFFFF#16) = .jp 0xFFFF#16 ∧
    Instr.form .jp_hl = .jpHl ∧ Instr.form (.jr_e8 0x80#8) = .jr 0x80#8 := ⟨rfl, rfl, rfl⟩

theorem test_witness_ConditionalJumps : Instr.form (.jp_nz_a16 0x0150#16) = .jpCond .nz 0x0150#16 ∧
    Instr.form (.jr_c_e8 0x80#8) = .jrCond .c 0x80#8 := ⟨rfl, rfl⟩

theorem test_witness_CallsPushTheReturnAddress :
    Instr.form (.call_a16 0x1234#16) = .call 0x1234#16 ∧ Instr.form .rst_38h = .rst 7 ∧
    0x0038#16 = BitVec.ofNat 16 (8 * (7 : BitIndex)) ∧
    Instr.form (.call_z_a16 0x1234#16) = .callCond .z 0x1234#16 ∧ base.cond .z = false ∧
    ({ base with f := 0x80 } : State).cond .z = true := ⟨rfl, rfl, rfl, rfl, rfl, rfl⟩

theorem test_witness_ReturnsPopThePc : Instr.form .ret = .ret ∧ Instr.form .reti = .reti ∧
    Instr.form .ret_c = .retCond .c ∧ base.cond .c = false ∧ base.cond .nc = true := ⟨rfl, rfl, rfl, rfl, rfl⟩

theorem test_witness_NopHaltAndInterruptEnable : Instr.form .nop = .nop ∧ Instr.form .di = .di ∧
    Instr.form .ei = .ei ∧ Instr.form .halt = .halt := ⟨rfl, rfl, rfl, rfl⟩

theorem test_witness_StopOrSpeedSwitch : Instr.form .stop = .stop := rfl

theorem test_witness_IllegalOpcodeRecordsTheFault : Instr.form .illegal_d3 = .illegal 0xD3#8 ∧
    Instr.form .illegal_fd = .illegal 0xFD#8 := ⟨rfl, rfl⟩

/-- A jump that is not taken, and an instruction that is no transfer. -/
theorem test_witness_PcAdvancesByTheLength : Instr.wellFormed (.jp_z_a16 0x1234#16) = true ∧ base.cond .z = false ∧
    exec (.jp_z_a16 0x1234#16) base = .next ({ base with pc := 0xC003, elapsed := 12 }) ∧
    exec .nop base = .next ({ base with pc := 0xC001, elapsed := 4 }) := ⟨rfl, rfl, rfl, rfl⟩

theorem test_witness_WhoWritesTheEngineState :
    exec .ei base = .next ({ base with pc := 0xC001, elapsed := 4, ime := true }) ∧
    exec .stop base = .next ({ base with pc := 0xC002, elapsed := 4, run := .stopped }) := ⟨rfl, rfl⟩

/-- Both ends of every range of the map, overlay on and off. -/
theorem test_witness_ReadsFollowTheMap : State.reset.cfg.wf = true ∧ State.reset.bootOn = true ∧
    bootRom State.reset.cfg 0x00FF ≠ none ∧ bootRom State.reset.cfg 0x0100 = none ∧ base.bootOn = false ∧
    baseCgb.cfg.wf = true ∧ inRanges baseCgb.cfg.audioOwned 0xFF10 = true ∧
    inRanges baseCgb.cfg.audioOwned 0xFF3F = true ∧ inRanges baseCgb.cfg.videoOwned 0xFF68 = true ∧
    inRanges baseCgb.cfg.videoOwned 0xFF6B = true ∧
    (inRanges baseCgb.cfg.audioOwned 0xFF01 || inRanges baseCgb.cfg.videoOwned 0xFF01) = false ∧
    (inRanges baseCgb.cfg.audioOwned 0xFFFE || inRanges baseCgb.cfg.videoOwned 0xFFFE) = false := by
  decide

/-- A byte in each region, first and last address: what was placed is what is read. -/
theorem test_read_boundaries :
    [0x0000, 0x7FFF, 0x8000, 0x9FFF, 0xA000, 0xBFFF, 0xC000, 0xCFFF, 0xD000, 0xDFFF, 0xE000, 0xFDFF, 0xFE00, 0xFE9F,
      0xFEA0, 0xFEFF, 0xFF00, 0xFF01, 0xFF10, 0xFF7F, 0xFF80, 0xFFFE, 0xFFFF].all
        (fun x => (base.placeByte x 0x5A).memRead x == 0x5A) = true := by decide

theorem test_witness_WritesFollowTheMap : base.cfg.wf = true ∧ baseCgb.cfg.wf = true ∧
    baseCgb.cfg.cgbMode = true ∧ base.cfg.cgbMode = false ∧
    inRanges base.cfg.audioOwned 0xFF10 = true ∧ inRanges base.cfg.audioOwned 0xFF3F = true ∧
    inRanges baseCgb.cfg.videoOwned 0xFF68 = true ∧ inRanges baseCgb.cfg.videoOwned 0xFF6B = true ∧
    [0xFF01, 0xFF0F, 0xFF40, 0xFF55, 0xFF7F, 0xFF80, 0xFFFE].all (fun n =>
      !(inRanges base.cfg.audioOwned n || inRanges base.cfg.videoOwned n)) = true := by decide

/-- The first and last address of each region whose write is a call: the collaborator, address and byte of R101,
with nothing stored. -/
theorem test_write_boundaries_calls :
    [(0x0000#16, Call.romWrite 0x0000 0x5A), (0x7FFF, .romWrite 0x7FFF 0x5A), (0xA000, .xramWrite 0xA000 0x5A),
      (0xBFFF, .xramWrite 0xBFFF 0x5A), (0xFF10, .audioWrite 0xFF10 0x5A), (0xFF3F, .audioWrite 0xFF3F 0x5A),
      (0xFF68, .videoWrite 0xFF68 0x5A), (0xFF6B, .videoWrite 0xFF6B 0x5A)].all (fun x =>
        (baseCgb.memWrite x.1 0x5A).calls == [x.2] && (baseCgb.memWrite x.1 0x5A).mem == []) = true := by decide

/-- The first and last address of each region of storage, and the ports: the one byte that changes, nothing called.
Bank 1 of the switchable work RAM is what the echo reaches too; the gap stores nothing. -/
theorem test_write_boundaries_cells :
    [(0x8000#16, [(0x8000, 0x5A#8)]), (0x9FFF, [(0x9FFF, 0x5A)]), (0xC000, [(0xC000, 0x5A)]),
      (0xCFFF, [(0xCFFF, 0x5A)]), (0xD000, [(0x1D000, 0x5A)]), (0xDFFF, [(0x1DFFF, 0x5A)]),
      (0xE000, [(0xC000, 0x5A)]), (0xEFFF, [(0xCFFF, 0x5A)]), (0xF000, [(0x1D000, 0x5A)]),
      (0xFDFF, [(0x1DDFF, 0x5A)]), (0xFE00, [(0xFE00, 0x5A)]), (0xFE9F, [(0xFE9F, 0x5A)]), (0xFEA0, []),
      (0xFEFF, []), (0xFF00, [(0xFF00, 0x10)]), (0xFF01, [(0xFF01, 0x5A)]), (0xFF04, []),
      (0xFF50, [(0xFF50, 0x5A)]), (0xFF55, [(0xFF55, 0x5A)]), (0xFF7F, [(0xFF7F, 0x5A)]),
      (0xFF80, [(0xFF80, 0x5A)]), (0xFFFE, [(0xFFFE, 0x5A)]), (0xFFFF, [])].all (fun x =>
        (base.memWrite x.1 0x5A).mem == x.2 && (base.memWrite x.1 0x5A).calls == []) = true := by decide

/-- The ports whose write is more than a byte: the divider cleared, the overlay off, the DMA and HDMA lines taken,
IE written. -/
theorem test_write_boundaries_ports :
    ((base.setIo 0x04 0x99).memWrite 0xFF04 0x5A).mem = [] ∧
    ({ base with bootOn := true }.memWrite 0xFF50 0x00).bootOn = false ∧
    base.memWrite 0xFF46 0xC1 = (base.setIo 0x46 0xC1).dmaCopy 0xC1 ∧
    baseCgb.memWrite 0xFF55 0x5A = (baseCgb.setIo 0x55 0x5A).requestHdma 0x5A ∧
    (base.memWrite 0xFFFF 0x5A).ie = 0x5A := ⟨rfl, rfl, rfl, rfl, rfl⟩

/-- A call makes known answers lapse inside the ranges of the called collaborator only: both ends of each, and the
addresses beside them (log 5). -/
theorem test_calls_forget :
    (let s := { baseCgb with known := [(0x0000, 1), (0x7FFF, 1), (0xA000, 1), (0xBFFF, 1), (0xFEA0, 1), (0xFF00, 1),
      (0xFF10, 1), (0xFF3F, 1), (0xFF68, 1), (0xFF6B, 1)] }
    let kept := fun c : Call => (s.callOut c).known.map Prod.fst
    kept (.romWrite 0 0) == [0xFEA0, 0xFF00, 0xFF10, 0xFF3F, 0xFF68, 0xFF6B] &&
      kept (.xramWrite 0 0) == [0xFEA0, 0xFF00, 0xFF10, 0xFF3F, 0xFF68, 0xFF6B] &&
      kept (.audioWrite 0 0) == [0, 0x7FFF, 0xA000, 0xBFFF, 0xFEA0, 0xFF00, 0xFF68, 0xFF6B] &&
      kept (.videoWrite 0 0) == [0, 0x7FFF, 0xA000, 0xBFFF, 0xFEA0, 0xFF00, 0xFF10, 0xFF3F] &&
      kept (.hdma 0) == s.known.map Prod.fst) = true := by decide

theorem test_witness_StoreThenLoad : base.mem.wf = true ∧ base.cfg.wf = true ∧
    [0x8000, 0x9FFF, 0xC000, 0xFDFF, 0xFE00, 0xFE9F, 0xFF01, 0xFF46, 0xFF50, 0xFF80, 0xFFFE, 0xFFFF].all
      (fun x => base.readsBack x) = true ∧
    [0x7FFF, 0xA000, 0xBFFF, 0xFEA0, 0xFF00, 0xFF04, 0xFF10, 0xFF3F].all (fun x => !base.readsBack x) = true := by
  decide

theorem test_witness_DmaCopiesThePage : base.mem.wf = true := by decide

/-- A running state and a halted one that wakes. -/
theorem test_witness_StepRunsTheDecodedInstruction :
    let s := wram [0x00]
    let u := { s with run := .running, elapsed := 0, returned := none, tick := s.tick + 1 }
    s.fault = none ∧ s.run = .running ∧ s.ime = false ∧ s.hsnap = 0#8 ∧
    decode [u.memRead s.pc, u.memRead (s.pc + 1), u.memRead (s.pc + 2)] = .ok (.nop, [0x00#8, 0x00#8]) ∧
    exec .nop u = .next ({ u with pc := 0xC001, elapsed := 4 }) ∧
    ({ s.setIo 0x0F 0x04 with run := .halted } : State).ifReg ≠ s.hsnap ∧
    ({ s.setIo 0x0F 0x04 with run := .halted } : State).pending = none := by
  refine ⟨rfl, rfl, rfl, rfl, rfl, rfl, ?_, rfl⟩
  decide

/-- A service with IME set, and one that is the bypass event under `serve`. -/
theorem test_witness_StepServesThenRunsTheHandler :
    let s := interrupted 0x1F 0x1F true
    let u := { s with run := .running, elapsed := 0, returned := none, tick := s.tick + 1 }
    let v := { u.serve 0 with elapsed := u.elapsed + 20 }
    s.fault = none ∧ s.run ≠ .stopped ∧ s.pending = some 0 ∧ s.ime = true ∧
    decode [v.memRead v.pc, v.memRead (v.pc + 1), v.memRead (v.pc + 2)] = .ok (.nop, [0x00#8, 0x00#8]) ∧
    exec .nop v = .next ({ v with pc := 0x0041, elapsed := 24 }) ∧
    ({ bypass with cfg := base.cfg } : State).cfg.imeBypass = .serve ∧ bypass.hsnap ≠ 0#8 := by
  refine ⟨rfl, nofun, rfl, rfl, rfl, rfl, rfl, ?_⟩
  decide

theorem test_witness_IdleStepsDoNothing : ({ base with fault := some ⟨0xC000, 0xDD⟩ } : State).fault ≠ none ∧
    ({ base with run := .stopped } : State).run = .stopped := ⟨nofun, rfl⟩

theorem test_witness_HaltedTick : let s : State := { base.setIo 0x0F 0x04 with run := .halted, hsnap := 0x04 }
    s.fault = none ∧ s.run = .halted ∧ s.ifReg = s.hsnap ∧ s.pending = none := ⟨rfl, rfl, rfl, rfl⟩

theorem test_witness_IllegalOpcodeAbortsTheSession : let s := wram [0xDD]
    s.fault = none ∧ s.run = .running ∧ s.ime = false ∧ s.hsnap = 0#8 ∧
    { s with elapsed := 0, returned := none, tick := s.tick + 1 }.memRead s.pc = 0xDD#8 := ⟨rfl, rfl, rfl, rfl, rfl⟩

theorem test_witness_StepStopsOnlyOnTheBypass : bypass.fault = none ∧ bypass.run = .running ∧ bypass.ime = false ∧
    bypass.hsnap ≠ 0#8 ∧ bypass.pending = some 0 ∧ bypass.cfg.imeBypass = .refuse ∧
    ({ bypass with hsnap := 0 } : State).hsnap = 0#8 := by
  refine ⟨rfl, rfl, rfl, ?_, rfl, rfl, rfl⟩
  decide

theorem test_witness_DividerLaw : ({ baseCgb with speed := true } : State).mem.wf = true := rfl

theorem test_witness_CounterLaw : ((base.setIo 0x07 0x05).setIo 0x05 0xFF).mem.wf = true ∧
    (0x05#8).getLsbD 2 = true ∧ (0x03#8).getLsbD 2 = false := by decide

theorem test_witness_SpeedSwitchAndTimerFrame : base.mem.wf = true ∧ base.speedPend = false ∧
    ({ baseCgb with speedPend := true } : State).speedPend = true := ⟨rfl, rfl, rfl⟩

theorem wram_inv : (wram [0x3C]).Inv :=
  ⟨by decide, by decide, by decide, by decide, by decide, by decide, nofun, by decide, by decide⟩

/-- A state of the invariant other than reset, a step from it, and actions the environment may take there, a
restored snapshot and a list of known answers among them. -/
theorem test_witness_EveryStepKeepsTheInvariant : (wram [0x3C]).Inv ∧ (∃ t, step (wram [0x3C]) = .next t) ∧
    EnvAction.permitted (wram [0x3C]) (.restore { wram [0x3C] with a := 0x01, pc := 0x1234 }) ∧
    EnvAction.permitted (wram [0x3C]) (.answers [(0x0000, 0x00), (0xFF00, 0x0F)]) ∧
    EnvAction.permitted (wram [0x3C]) (.request 4) ∧ EnvAction.permitted (wram [0x3C]) .reset ∧
    EnvAction.permitted (wram [0x3C]) (.vram 1 0x1FFF 0xFF) := by
  refine ⟨wram_inv, ⟨_, rfl⟩, ⟨?_, rfl⟩, ?_, trivial, trivial, trivial⟩
  · exact ⟨wram_inv.1, wram_inv.2, by decide, by decide, by decide, by decide, nofun, by decide, by decide⟩
  · show cellsRising [(0x0000, 0x00#8), (0xFF00, 0x0F#8)] = true
    decide

/-- A step with the overlay off; canonical memory; a request already made; an HDMA transfer asked for, and none. -/
theorem test_witness_OverlayAndEnvironmentActions : base.bootOn = false ∧ (∃ t, step (wram [0x00]) = .next t) ∧
    (base.setIo 0x0F 0x10).mem.wf = true ∧ ((base.setIo 0x0F 0x10).mem.read 0xFF0F).getLsbD (4 : Fin 5) = true ∧
    baseCgb.cfg.cgbMode = true ∧ Call.hdma 0x80 ∈ (baseCgb.callOut (.hdma 0x80)).calls ∧
    Call.hdma 0x80 ∉ baseCgb.calls := by
  refine ⟨rfl, ⟨_, rfl⟩, rfl, rfl, rfl, ?_, ?_⟩ <;> decide

/-- The five request lines, first and last, beside bits that stay (R412). -/
theorem test_request_interrupt : ((base.setIo 0x0F 0xE2).act (.request 0)).ifReg = 0xE3 ∧
    ((base.setIo 0x0F 0xE2).act (.request 4)).ifReg = 0xF2 ∧
    (base.setIo 0x0F 0xE2).act (.request 1) = base.setIo 0x0F 0xE2 := ⟨rfl, rfl, rfl⟩

/-- The HDMA collaborator writes video RAM after a request only, with CGB_MODE only (R444): the last byte of
bank 1. -/
theorem test_hdma_needs_a_request :
    ((baseCgb.callOut (.hdma 0x80)).act (.vram 1 0x1FFF 0x5A)).mem = [(0x19FFF, 0x5A)] ∧
    baseCgb.act (.vram 1 0x1FFF 0x5A) = baseCgb ∧
    ((base.callOut (.hdma 0x80)).act (.vram 0 0 0x5A)).mem = [] := ⟨rfl, rfl, rfl⟩

/-- Where the port's stored value is replaced, the input device's answer is no longer known, and the others are
(R97; log 27). -/
theorem test_input_answer_lapses :
    (let s := { base.setIo 0x00 0x10 with known := [(0x0000, 0xC3), (0xFF00, 0x0E), (0xFF10, 0x80)] }
    [s.memWrite 0xFF00 0x20, s.act .reset, s.act (.restore base)].all (fun t =>
      t.known == [(0x0000, 0xC3), (0xFF10, 0x80)]) && (s.act (.request 0)).known == s.known) = true := by decide

theorem test_witness_ResetValues : (0 : Nat) < 128 ∧ (127 : Nat) < 128 ∧
    (∃ n, inRanges (Config.defaults false).bootRanges n = true) := ⟨by decide, by decide, 0, by decide⟩

end Sys2Proof.Tests
end

section
/-!
Statements about reset: the invariant of reachable states in the state `reset()` makes.
-/

namespace Sys2Proof.Machine

/-- Reset writes no I/O byte, so every port reads as the fill (R60). -/
@[simp] theorem io_resetWith (c : Config) (p : Nat) : (State.resetWith c).io p = Memory.fill := rfl

/-- Settles O58, clause by clause. Reset lists no cell and no known answer and zeroes F, both accumulators and the
speed latches. The two clauses that look at CGB_MODE ask nothing then: there is no listed cell, and the speed latch
is 0. -/
theorem invariantAtReset : Obligations.InvariantAtReset := by
  intro c
  exact
    { memCanonical := reset_wf c
      memExists := List.all_nil
      lowNibble := BitVec.zero_and
      divAcc := Nat.zero_lt_succ 255
      timAcc := Nat.zero_lt_succ 1023
      noPending := rfl
      speed := nofun
      joypad := by rw [io_resetWith, Memory.fill, BitVec.zero_and]
      known := rfl }

end Sys2Proof.Machine
end

section
/-!
What one instruction can do, said once: what it leaves alone beside the CPU registers, and which of the few updates
of everything else it makes. The statements about all instructions and about every step follow from it.
-/

namespace Sys2Proof.Machine

/-! ## States that agree outside the CPU registers -/

/-- The state with the CPU registers and the cycle count blanked: what is left is the same in two states that differ
in A to L, F, PC, SP and the cycles of the step only. -/
def State.sansCpu (s : State) : State :=
  { s with a := 0, b := 0, c := 0, d := 0, e := 0, h := 0, l := 0, f := 0, pc := 0, sp := 0, elapsed := 0 }

/-- `t` comes from `u` by writes of CPU registers and of the cycle count, none of which sets a bit of F[3:0]. -/
structure State.CpuOnly (u t : State) : Prop where
  rest : t.sansCpu = u.sansCpu
  low : u.f &&& 0x0F#8 = 0#8 → t.f &&& 0x0F#8 = 0#8

namespace State.CpuOnly

variable {u s : State}

theorem refl (s : State) : s.CpuOnly s := ⟨rfl, id⟩

theorem setA (h : u.CpuOnly s) {v : Byte} : u.CpuOnly { s with a := v } := ⟨h.rest, h.low⟩

theorem setSp (h : u.CpuOnly s) {w : Word} : u.CpuOnly { s with sp := w } := ⟨h.rest, h.low⟩

theorem setHl (h : u.CpuOnly s) {w : Word} : u.CpuOnly (s.setHl w) := ⟨h.rest, h.low⟩

theorem dropWord (h : u.CpuOnly s) : u.CpuOnly s.dropWord := ⟨h.rest, h.low⟩

theorem setPc (h : u.CpuOnly s) {w : Word} : u.CpuOnly (s.setPc w) := ⟨h.rest, h.low⟩

theorem advance (h : u.CpuOnly s) {n : Nat} : u.CpuOnly (s.advance n) := ⟨h.rest, h.low⟩

theorem spend (h : u.CpuOnly s) {op : Nat} {taken : Bool} : u.CpuOnly (s.spend op taken) := ⟨h.rest, h.low⟩

theorem setReg (h : u.CpuOnly s) {r : Reg8} {v : Byte} : u.CpuOnly (s.setReg r v) := by
  cases r <;> exact ⟨h.rest, h.low⟩

theorem setPair (h : u.CpuOnly s) {p : Pair} {w : Word} : u.CpuOnly (s.setPair p w) := by
  cases p <;> exact ⟨h.rest, h.low⟩

theorem placeStep (h : u.CpuOnly s) {p : Place} : u.CpuOnly (s.placeStep p) := by
  cases p <;> exact ⟨h.rest, h.low⟩

theorem setFlags (h : u.CpuOnly s) {x : Flags} : u.CpuOnly (s.setFlags x) :=
  ⟨h.rest, fun hu => (setFlags_low s x).trans (h.low hu)⟩

/-- Of the stack pairs AF alone writes F, and with its low nibble cleared (R33). -/
theorem setStackPair (h : u.CpuOnly s) {p : StackPair} {w : Word} : u.CpuOnly (s.setStackPair p w) := by
  cases p
  case af =>
    refine ⟨h.rest, fun _ => ?_⟩
    show (lo w &&& 0xF0#8) &&& 0x0F#8 = 0#8
    rw [BitVec.and_assoc]
    exact BitVec.and_zero
  all_goals exact ⟨h.rest, h.low⟩

/-- The engine state, the storage and the parameters are among what such writes leave alone. -/
theorem fields {t : State} (h : u.CpuOnly t) :
    t.ime = u.ime ∧ t.run = u.run ∧ t.hsnap = u.hsnap ∧ t.fault = u.fault ∧ t.divAcc = u.divAcc ∧
      t.timAcc = u.timAcc ∧ t.speed = u.speed ∧ t.speedPend = u.speedPend ∧ t.bootOn = u.bootOn ∧
      t.mem = u.mem ∧ t.cfg = u.cfg ∧ t.known = u.known :=
  have e {α : Type} (g : State → α) : g t.sansCpu = g u.sansCpu := congrArg g h.rest
  ⟨e State.ime, e State.run, e State.hsnap, e State.fault, e State.divAcc, e State.timAcc, e State.speed,
    e State.speedPend, e State.bootOn, e State.mem, e State.cfg, e State.known⟩

/-- What a push adds to its two stores is the new SP. -/
theorem push (s : State) (w : Word) :
    ((s.memWrite (s.sp - 1) (hi w)).memWrite (s.sp - 2) (lo w)).CpuOnly (s.push16 w) := (refl _).setSp

end State.CpuOnly

open State.CpuOnly (refl push)

/-! ## Everything an instruction does beside -/

/-- `t` comes from `s` by stores through the router. -/
inductive State.Stores (s : State) : State → Prop where
  | nothing : s.Stores s
  | store {u : State} {a : Word} {v : Byte} (h : s.Stores u) : s.Stores (u.memWrite a v)

/-- What an instruction of shape `x` may do beside writes of CPU registers: stores, and one engine update, which
names the shapes that make it. -/
inductive Effect (x : Form) (s : State) : State → Prop where
  | stores {u : State} (h : s.Stores u) : Effect x s u
  | enable (h : x = .ei ∨ x = .reti) : Effect x s { s with ime := true }
  | disable (h : x = .di) : Effect x s { s with ime := false }
  | halt (h : x = .halt) : Effect x s { s with run := .halted, hsnap := s.ifReg }
  | stop (h : x = .stop) : Effect x s { s with run := .stopped }
  | switch (h : x = .stop) (hc : s.cfg.cgbMode = true) : Effect x s { s with speedPend := true }
  | fault {b : Byte} (h : x = .illegal b) : Effect x s (s.raiseUnimplemented b)

variable {x : Form} {op : Nat} {s t v : State}

/-- A handler that completes adds its cost. -/
theorem eq_of_done (h : done op v = .next t) : t = v.spend op false := by
  cases h; rfl

/-- A conditional transfer is one of its two outcomes with its cost. -/
theorem branch_cases {taken : Bool} {yes no : State} (h : branch op taken yes no = .next t) :
    (taken = true ∧ t = yes.spend op true) ∨ (taken = false ∧ t = no.spend op false) := by
  cases taken
  · cases h; exact .inr ⟨rfl, rfl⟩
  · cases h; exact .inl ⟨rfl, rfl⟩

theorem effect_of_done {u : State} (h : done op v = .next t) (he : Effect x s u) (hv : u.CpuOnly v) :
    ∃ u, Effect x s u ∧ u.CpuOnly t :=
  ⟨u, he, eq_of_done h ▸ hv.spend⟩

theorem effect_of_branch {taken : Bool} {yes no uy un : State} (h : branch op taken yes no = .next t)
    (hy : Effect x s uy) (hyes : uy.CpuOnly yes) (hn : Effect x s un) (hno : un.CpuOnly no) :
    ∃ u, Effect x s u ∧ u.CpuOnly t := by
  obtain ⟨-, rfl⟩ | ⟨-, rfl⟩ := branch_cases h
  · exact ⟨uy, hy, hyes.spend⟩
  · exact ⟨un, hn, hno.spend⟩

/-- The state itself, reached by no effect. -/
theorem Effect.none : Effect x s s := .stores .nothing

/-- One store. -/
theorem Effect.one {a : Word} {v : Byte} : Effect x s (s.memWrite a v) := .stores (.store .nothing)

/-- The two stores of a push. -/
theorem Effect.push {w : Word} :
    Effect x s ((s.memWrite (s.sp - 1) (hi w)).memWrite (s.sp - 2) (lo w)) := .stores (.store (.store .nothing))

/-- A page-two operand written back is a register write or one store. -/
theorem exists_effect_setTarget (x : Form) (s : State) (y : Target) (v : Byte) :
    ∃ u, Effect x s u ∧ u.CpuOnly (s.setTarget y v) := by
  cases y with
  | reg r => exact ⟨s, .none, (refl s).setReg⟩
  | mem => exact ⟨_, .one, refl _⟩

theorem exists_effect_rotTarget (x : Form) (s : State) (o : RotOp) (y : Target) :
    ∃ u, Effect x s u ∧ u.CpuOnly (rotTarget o y s) := by
  obtain ⟨u, he, hu⟩ := exists_effect_setTarget x s y (rotateFlags o (s.target y) s.fc).1
  exact ⟨u, he, hu.setFlags.advance⟩

theorem cpuOnly_bitTarget (s : State) (k : BitIndex) (y : Target) : s.CpuOnly (bitTarget k y s) :=
  (refl s).setFlags.advance

theorem exists_effect_resTarget (x : Form) (s : State) (k : BitIndex) (y : Target) :
    ∃ u, Effect x s u ∧ u.CpuOnly (resTarget k y s) := by
  obtain ⟨u, he, hu⟩ := exists_effect_setTarget x s y (clearBit k (s.target y))
  exact ⟨u, he, hu.advance⟩

theorem exists_effect_setTargetBit (x : Form) (s : State) (k : BitIndex) (y : Target) :
    ∃ u, Effect x s u ∧ u.CpuOnly (setTargetBit k y s) := by
  obtain ⟨u, he, hu⟩ := exists_effect_setTarget x s y (setBit k (s.target y))
  exact ⟨u, he, hu.advance⟩

theorem exists_effect_secondPageRun (x : Form) (s : State) (b : Byte) :
    ∃ u, Effect x s u ∧ u.CpuOnly (secondPageRun b s) := by
  unfold secondPageRun
  dsimp only
  split
  · exact exists_effect_rotTarget x s _ _
  · exact ⟨s, .none, cpuOnly_bitTarget s _ _⟩
  · exact exists_effect_resTarget x s _ _
  · exact exists_effect_setTargetBit x s _ _

/-- Everything an instruction can do: one effect, then writes of CPU registers. -/
theorem run_effect (h : run x op s = .next t) : ∃ u, Effect x s u ∧ u.CpuOnly t := by
  cases x with
  | nop => exact effect_of_done h .none (refl s).advance
  | halt => exact effect_of_done h (.halt rfl) (refl _).advance
  | stop =>
    by_cases hc : (s.cfg.cgbMode && (s.io 0x4D).getLsbD 0) = true
    · refine effect_of_done h (.switch rfl (Bool.and_eq_true_iff.1 hc).1) ?_
      rw [stopOp, if_pos hc]
      exact (refl _).advance
    · refine effect_of_done h (.stop rfl) ?_
      rw [stopOp, if_neg hc]
      exact (refl _).advance
  | di => exact effect_of_done h (.disable rfl) (refl _).advance
  | ei => exact effect_of_done h (.enable (.inl rfl)) (refl _).advance
  | ldRegReg dst src => exact effect_of_done h .none (refl s).setReg.advance
  | ldRegImm dst n => exact effect_of_done h .none (refl s).setReg.advance
  | ldRegMem dst => exact effect_of_done h .none (refl s).setReg.advance
  | ldMemReg r => exact effect_of_done h .one (refl _).advance
  | ldMemImm n => exact effect_of_done h .one (refl _).advance
  | ldA p => exact effect_of_done h .none (refl s).setA.placeStep.advance
  | stA p => exact effect_of_done h .one (refl _).placeStep.advance
  | ldPairImm p w => exact effect_of_done h .none (refl s).setPair.advance
  | ldAbsSp w => exact effect_of_done h (.stores (.store (.store .nothing))) (refl _).advance
  | ldSpHl => exact effect_of_done h .none (refl s).setSp.advance
  | ldHlSp e => exact effect_of_done h .none (refl s).setHl.setFlags.advance
  | push p => exact effect_of_done h .push (push s _).advance
  | pop p => exact effect_of_done h .none (refl s).dropWord.setStackPair.advance
  | alu o y => exact effect_of_done h .none (refl s).setA.setFlags.advance
  | incReg r => exact effect_of_done h .none (refl s).setReg.setFlags.advance
  | decReg r => exact effect_of_done h .none (refl s).setReg.setFlags.advance
  | incMem => exact effect_of_done h .one (refl _).setFlags.advance
  | decMem => exact effect_of_done h .one (refl _).setFlags.advance
  | daa => exact effect_of_done h .none (refl s).setA.setFlags.advance
  | cpl => exact effect_of_done h .none (refl s).setA.setFlags.advance
  | scf => exact effect_of_done h .none (refl s).setFlags.advance
  | ccf => exact effect_of_done h .none (refl s).setFlags.advance
  | incPair p => exact effect_of_done h .none (refl s).setPair.advance
  | decPair p => exact effect_of_done h .none (refl s).setPair.advance
  | addHl p => exact effect_of_done h .none (refl s).setHl.setFlags.advance
  | addSp e => exact effect_of_done h .none (refl s).setSp.setFlags.advance
  | accRot o => exact effect_of_done h .none (refl s).setA.setFlags.advance
  | rot o y =>
    obtain ⟨u, he, hu⟩ := exists_effect_rotTarget _ s o y
    exact effect_of_done h he hu
  | bit k y => exact effect_of_done h .none (cpuOnly_bitTarget s k y)
  | res k y =>
    obtain ⟨u, he, hu⟩ := exists_effect_resTarget _ s k y
    exact effect_of_done h he hu
  | set k y =>
    obtain ⟨u, he, hu⟩ := exists_effect_setTargetBit _ s k y
    exact effect_of_done h he hu
  | jp w => exact effect_of_done h .none (refl s).setPc
  | jpCond cc w => exact effect_of_branch h .none (refl s).setPc .none (refl s).advance
  | jpHl => exact effect_of_done h .none (refl s).setPc
  | jr e => exact effect_of_done h .none (refl s).setPc
  | jrCond cc e => exact effect_of_branch h .none (refl s).setPc .none (refl s).advance
  | call w => exact effect_of_done h .push (push s _).setPc
  | callCond cc w => exact effect_of_branch h .push (push s _).setPc .none (refl s).advance
  | rst k => exact effect_of_done h .push (push s _).setPc
  | ret => exact effect_of_done h .none (refl s).dropWord.setPc
  | retCond cc => exact effect_of_branch h .none (refl s).dropWord.setPc .none (refl s).advance
  | reti => exact effect_of_done h (.enable (.inr rfl)) ⟨rfl, id⟩
  | pageTwo =>
    obtain ⟨u, he, hu⟩ := exists_effect_secondPageRun .pageTwo s (s.memRead (s.pc + 1))
    exact effect_of_done h he hu
  | illegal b => cases h; exact ⟨_, .fault rfl, refl _⟩

theorem exec_effect {i : Instr} (h : exec i s = .next t) : ∃ u, Effect i.form s u ∧ u.CpuOnly t :=
  run_effect (exec_eq_run i s ▸ h)

end Sys2Proof.Machine
end

section
/-!
Statements about all instructions: PC after an instruction that transfers nowhere, and who writes the engine state.
-/

namespace Sys2Proof.Machine

/-! ## From shapes to instructions -/

/-- The shapes that write the engine state belong to one instruction each. -/
theorem eq_of_form_eq {i j : Instr} (hj : j ∈ [Instr.ei, .di, .reti, .halt, .stop]) (h : i.form = j.form) :
    i = j := by
  simp only [List.mem_cons, List.not_mem_nil, or_false] at hj
  rcases hj with rfl | rfl | rfl | rfl | rfl <;> cases i <;> cases h <;> rfl

theorem isIllegal_of_form {i : Instr} {b : Byte} (h : i.form = .illegal b) : i.isIllegal = true := by
  cases i <;> cases h <;> rfl

theorem isPrefix_of_form {i : Instr} (h : i.form = .pageTwo) : i.isPrefix = true := by
  cases i <;> cases h
  rfl

/-! ## Who writes the engine state -/

/-- Stores leave the engine state and the parameters alone. -/
theorem State.Stores.fields {s u : State} (h : s.Stores u) :
    u.ime = s.ime ∧ u.run = s.run ∧ u.hsnap = s.hsnap ∧ u.fault = s.fault ∧ u.divAcc = s.divAcc ∧
      u.timAcc = s.timAcc ∧ u.speed = s.speed ∧ u.speedPend = s.speedPend ∧ u.cfg = s.cfg ∧ u.f = s.f := by
  induction h with
  | nothing => simp
  | store _ ih => simpa using ih

/-- Settles O40: of the engine state an instruction's one effect is all that is written, and each effect names its
instructions. -/
theorem whoWritesTheEngineState : Obligations.WhoWritesTheEngineState := by
  intro i s t hexec
  obtain ⟨u, heff, hcpu⟩ := exec_effect hexec
  obtain ⟨hime, hrun, hsnap, hfault, hdiv, htim, hspeed, hpend, -, -, hcfg, -⟩ := hcpu.fields
  rw [hime, hrun, hsnap, hfault, hdiv, htim, hspeed, hpend, hcfg]
  cases heff with
  | stores h =>
    obtain ⟨hime, hrun, hsnap, hfault, hdiv, htim, hspeed, hpend, hcfg, -⟩ := h.fields
    exact ⟨.inl hime, .inl hrun, .inl hsnap, .inl hpend, .inl hfault, hdiv, htim, hspeed, hcfg⟩
  | enable h =>
    have hi : i = .ei ∨ i = .reti :=
      h.imp (eq_of_form_eq (j := .ei) (by simp)) (eq_of_form_eq (j := .reti) (by simp))
    simp [hi]
  | disable h =>
    have hi : i = .di := eq_of_form_eq (j := .di) (by simp) h
    simp [hi]
  | halt h =>
    have hi : i = .halt := eq_of_form_eq (j := .halt) (by simp) h
    simp [hi]
  | stop h =>
    have hi : i = .stop := eq_of_form_eq (j := .stop) (by simp) h
    simp [hi]
  | switch h _ =>
    have hi : i = .stop := eq_of_form_eq (j := .stop) (by simp) h
    simp [hi]
  | fault h => simp [isIllegal_of_form h]

/-! ## PC -/

/-- An instruction of this shape, run in `s`, is no taken control transfer (R36). -/
def fallsThrough (x : Form) (s : State) : Prop :=
  match x with
  | .jp _ | .jpHl | .jr _ | .call _ | .rst _ | .ret | .reti => False
  | .jpCond cc _ | .jrCond cc _ | .callCond cc _ | .retCond cc => s.cond cc = false
  | _ => True

@[simp] theorem setTarget_pc (s : State) (y : Target) (v : Byte) : (s.setTarget y v).pc = s.pc := by
  cases y
  · exact setReg_pc s _ v
  · exact memWrite_pc s _ v

/-- A combined opcode takes two bytes, whatever its fields. -/
theorem formLength_of_cb {x : Form} {a b c : Nat} (hop : x.opcode = cb a b c) (himm : x.immediates = []) :
    formLength x = 2 := by
  have h : ¬ cb a b c < 0x100 := by unfold cb; omega
  rw [formLength, hop, himm, opcodeBytes, if_neg h]
  rfl

variable {x : Form} {op : Nat} {s t v : State}

theorem pc_of_done {n : Nat} (h : done op (v.advance n) = .next t) (hv : v.pc = s.pc) (hn : formLength x = n) :
    t.pc = s.pc + BitVec.ofNat 16 (formLength x) := by
  rw [eq_of_done h, spend_pc, advance_pc, hv, hn]

theorem pc_of_branch {taken : Bool} {yes : State} {n : Nat} (h : branch op taken yes (s.advance n) = .next t)
    (hno : taken = false) (hn : formLength x = n) : t.pc = s.pc + BitVec.ofNat 16 (formLength x) := by
  obtain ⟨hyes, -⟩ | ⟨-, rfl⟩ := branch_cases h
  · exact absurd (hno.symm.trans hyes) Bool.false_ne_true
  · rw [spend_pc, advance_pc, hn]

/-- A handler that transfers nowhere leaves PC behind the last byte of its shape. -/
theorem run_pc (h : run x op s = .next t) (hx : fallsThrough x s) (hpage : x ≠ .pageTwo)
    (hlegal : ∀ b, x ≠ .illegal b) : t.pc = s.pc + BitVec.ofNat 16 (formLength x) := by
  cases x with
  | nop => exact pc_of_done h rfl rfl
  | halt => exact pc_of_done h rfl rfl
  | stop => exact pc_of_done h (by split <;> rfl) rfl
  | di => exact pc_of_done h rfl rfl
  | ei => exact pc_of_done h rfl rfl
  | ldRegReg dst src => exact pc_of_done h (by simp) (by cases dst <;> cases src <;> rfl)
  | ldRegImm dst n => exact pc_of_done h (by simp) (by cases dst <;> rfl)
  | ldRegMem dst => exact pc_of_done h (by simp) (by cases dst <;> rfl)
  | ldMemReg r => exact pc_of_done h (by simp) (by cases r <;> rfl)
  | ldMemImm n => exact pc_of_done h (by simp) rfl
  | ldA p => exact pc_of_done h (by simp) rfl
  | stA p => exact pc_of_done h (by simp) rfl
  | ldPairImm p w => exact pc_of_done h (by simp) (by cases p <;> rfl)
  | ldAbsSp w => exact pc_of_done h (by simp) rfl
  | ldSpHl => exact pc_of_done h rfl rfl
  | ldHlSp e => exact pc_of_done h rfl rfl
  | push p => exact pc_of_done h (by simp) (by cases p <;> rfl)
  | pop p => exact pc_of_done h (by simp) (by cases p <;> rfl)
  | alu o y => exact pc_of_done h (by simp) rfl
  | incReg r => exact pc_of_done h (by simp) (by cases r <;> rfl)
  | decReg r => exact pc_of_done h (by simp) (by cases r <;> rfl)
  | incMem => exact pc_of_done h (by simp) rfl
  | decMem => exact pc_of_done h (by simp) rfl
  | daa => exact pc_of_done h rfl rfl
  | cpl => exact pc_of_done h rfl rfl
  | scf => exact pc_of_done h rfl rfl
  | ccf => exact pc_of_done h rfl rfl
  | incPair p => exact pc_of_done h (by simp) (by cases p <;> rfl)
  | decPair p => exact pc_of_done h (by simp) (by cases p <;> rfl)
  | addHl p => exact pc_of_done h rfl (by cases p <;> rfl)
  | addSp e => exact pc_of_done h rfl rfl
  | accRot o => exact pc_of_done h rfl (by cases o <;> rfl)
  | rot o y => exact pc_of_done h (by simp) (formLength_of_cb rfl rfl)
  | bit k y => exact pc_of_done h rfl (formLength_of_cb rfl rfl)
  | res k y => exact pc_of_done h (by simp) (formLength_of_cb rfl rfl)
  | set k y => exact pc_of_done h (by simp) (formLength_of_cb rfl rfl)
  | jpCond cc w => exact pc_of_branch h hx (by cases cc <;> rfl)
  | jrCond cc e => exact pc_of_branch h hx (by cases cc <;> rfl)
  | callCond cc w => exact pc_of_branch h hx (by cases cc <;> rfl)
  | retCond cc => exact pc_of_branch h hx (by cases cc <;> rfl)
  | jp | jpHl | jr | call | rst | ret | reti => exact hx.elim
  | pageTwo => exact absurd rfl hpage
  | illegal b => exact absurd rfl (hlegal b)

/-- Settles O39, from the same statement about shapes: the two rows that are no instruction with a handler are the
ones whose shape is left out there. -/
theorem pcAdvancesByTheLength : Obligations.PcAdvancesByTheLength := by
  intro i s t hwf hexec hx
  simp only [Instr.wellFormed, Bool.and_eq_true, Bool.not_eq_true'] at hwf
  obtain ⟨hprefix, hillegal⟩ := hwf
  refine run_pc (exec_eq_run i s ▸ hexec) hx (fun h => ?_) (fun b h => ?_)
  · exact Bool.false_ne_true (hprefix.symm.trans (isPrefix_of_form h))
  · exact Bool.false_ne_true (hillegal.symm.trans (isIllegal_of_form h))

end Sys2Proof.Machine
end

section
/-!
The part of the invariant that speaks of storage, which every store through the router keeps.
-/

namespace Sys2Proof.Machine

/-! ## Storage -/

/-- The clauses of the invariant about storage and known answers, as a statement about the parts they speak of, so
that it is carried over where a state changes elsewhere. -/
structure StorageOk (cgb : Bool) (m : Memory) (known : List Host.Cell) : Prop where
  canonical : m.wf = true
  listed : m.all (fun x => storageCell cgb x.1) = true
  joypad : m.read 0xFF00 &&& 0xCF#8 = 0#8
  rising : cellsRising known = true

/-- The same of a state. -/
def State.StorageOk (s : State) : Prop := Machine.StorageOk s.cfg.cgbMode s.mem s.known

/-- It is carried over to a state with the same parameters, storage and known answers. -/
theorem State.StorageOk.congr {s t : State} (h : s.StorageOk) (hc : t.cfg = s.cfg) (hm : t.mem = s.mem)
    (hk : t.known = s.known) : t.StorageOk := by
  rw [State.StorageOk, hc, hm, hk]
  exact h

/-! ### Cells that exist -/

variable {s t u : State}

/-- The cells of a bank, by the offset alone. -/
theorem storageCell_eq_true {cgb : Bool} {bank n : Nat} (hn : n < 0x10000)
    (h : bank = 0 ∧ (0x8000 ≤ n ∧ n < 0xA000 ∨ 0xC000 ≤ n ∧ n < 0xD000 ∨ 0xFE00 ≤ n ∧ n < 0xFEA0 ∨
        0xFF00 ≤ n ∧ n < 0xFFFF) ∨
      bank = 1 ∧ (0xD000 ≤ n ∧ n < 0xE000 ∨ cgb = true ∧ 0x8000 ≤ n ∧ n < 0xA000) ∨
      (1 < bank ∧ bank < 8) ∧ cgb = true ∧ 0xD000 ≤ n ∧ n < 0xE000) :
    storageCell cgb (bank * 0x10000 + n) = true := by
  have hdiv : (bank * 0x10000 + n) / 0x10000 = bank := by omega
  have hmod : (bank * 0x10000 + n) % 0x10000 = n := by omega
  simp only [storageCell, hdiv, hmod]
  split
  · simp only [Bool.or_eq_true, Bool.and_eq_true, decide_eq_true_eq]
    grind
  split
  · simp only [Bool.or_eq_true, Bool.and_eq_true, decide_eq_true_eq]
    grind
  · simp only [Bool.and_eq_true, decide_eq_true_eq]
    grind

/-- The cells of bank 0. -/
theorem storageCell_zero (cgb : Bool) {n : Nat} (h : 0x8000 ≤ n ∧ n < 0xA000 ∨ 0xC000 ≤ n ∧ n < 0xD000 ∨
    0xFE00 ≤ n ∧ n < 0xFEA0 ∨ 0xFF00 ≤ n ∧ n < 0xFFFF) : storageCell cgb n = true := by
  simpa using storageCell_eq_true (cgb := cgb) (bank := 0) (n := n) (by omega) (by omega)

theorem vbank_cases (s : State) : s.vbank = 0 ∨ s.vbank = 1 ∧ s.cfg.cgbMode = true := by
  unfold State.vbank
  split
  · rename_i hc
    have : (s.io 0x4F).toNat % 2 = 0 ∨ (s.io 0x4F).toNat % 2 = 1 := by omega
    exact this.imp_right (⟨·, hc⟩)
  · exact .inl rfl

theorem wbank_cases (s : State) : s.wbank = 1 ∨ 1 < s.wbank ∧ s.wbank < 8 ∧ s.cfg.cgbMode = true := by
  unfold State.wbank
  split
  · rename_i hc
    have : max 1 ((s.io 0x70).toNat % 8) = 1 ∨
        1 < max 1 ((s.io 0x70).toNat % 8) ∧ max 1 ((s.io 0x70).toNat % 8) < 8 := by omega
    exact this.imp_right fun ⟨h1, h2⟩ => ⟨h1, h2, hc⟩
  · exact .inl rfl

theorem storageCell_vramCell (s : State) {n : Nat} (h1 : 0x8000 ≤ n) (h2 : n < 0xA000) :
    storageCell s.cfg.cgbMode (s.vramCell n) = true :=
  have hb := vbank_cases s
  storageCell_eq_true (by omega) (by grind)

theorem storageCell_wramCell (s : State) {n : Nat} (h1 : 0xC000 ≤ n) (h2 : n < 0xE000) :
    storageCell s.cfg.cgbMode (s.wramCell n) = true := by
  have hb := wbank_cases s
  unfold State.wramCell
  split
  · exact storageCell_zero _ (by omega)
  · exact storageCell_eq_true (by omega) (by grind)

theorem unecho_mem_wram {n : Nat} (h1 : 0xC000 ≤ n) (h2 : n < 0xFE00) : 0xC000 ≤ unecho n ∧ unecho n < 0xE000 := by
  unfold unecho
  split <;> omega

/-- The bank number does not bring a cell of work RAM to the joypad port. -/
theorem wramCell_ne_joypad (s : State) {n : Nat} (h : n < 0xE000) : s.wramCell n ≠ 0xFF00 := by
  unfold State.wramCell
  split <;> omega

/-! ### What keeps it -/

/-- A store of an existing cell other than the joypad port. -/
theorem State.StorageOk.store (h : s.StorageOk) {k : Nat} {v : Byte}
    (hk : storageCell s.cfg.cgbMode k = true) (hj : k ≠ 0xFF00) : (s.store k v).StorageOk where
  canonical := store_wf s k v h.canonical
  listed := all_write _ _ _ _ h.listed hk
  joypad := (congrArg (· &&& 0xCF#8) (read_write_other _ _ hj.symm)).trans h.joypad
  rising := h.rising

theorem State.StorageOk.setIo (h : s.StorageOk) {p : Nat} {v : Byte} (h0 : 0 < p) (h1 : p < 0xFF) :
    (s.setIo p v).StorageOk :=
  h.store (storageCell_zero _ (by omega)) (by omega)

theorem State.StorageOk.callOut (h : s.StorageOk) (k : Call) : (s.callOut k).StorageOk where
  canonical := h.canonical
  listed := h.listed
  joypad := h.joypad
  rising := rising_filter _ _ h.rising

/-- The joypad port takes its select bits only (R55, R111). -/
theorem State.StorageOk.writeJoypad (h : s.StorageOk) (v : Byte) : (s.writeJoypad v).StorageOk where
  canonical := setIo_wf s 0 _ h.canonical
  listed := all_write _ _ _ _ h.listed (storageCell_zero _ (by omega))
  joypad := by
    rw [show (s.writeJoypad v).mem.read 0xFF00 = v &&& 0x30#8 from read_write_same _ _ _ h.canonical,
      BitVec.and_assoc]
    exact BitVec.and_zero
  rising := rising_filter _ _ h.rising

/-- A fold keeps what each turn of it keeps. -/
theorem foldl_keeps_mem {α : Type} {P : State → Prop} {g : State → α → State} (xs : List α)
    (hg : ∀ s, ∀ i ∈ xs, P s → P (g s i)) (s : State) (h : P s) : P (xs.foldl g s) := by
  induction xs generalizing s with
  | nil => exact h
  | cons i xs ih =>
    exact ih (fun s j hj => hg s j (List.mem_cons_of_mem _ hj)) _ (hg s i List.mem_cons_self h)

theorem State.StorageOk.dmaCopy (h : s.StorageOk) (v : Byte) : (s.dmaCopy v).StorageOk := by
  refine foldl_keeps_mem _ (fun t i hi ht => ?_) s h
  have hlt : i < 160 := List.mem_range.1 hi
  exact ht.store (storageCell_zero _ (by omega)) (by omega)

theorem State.StorageOk.hdmaByte (h : s.StorageOk) (hc : s.cfg.cgbMode = true)
    (x : BitVec 1 × BitVec 13 × BitVec 8) : (s.hdmaByte x).StorageOk := by
  have hbank := x.1.isLt
  have hoff := x.2.1.isLt
  have hk : storageCell s.cfg.cgbMode (x.1.toNat * 0x10000 + (0x8000 + x.2.1.toNat)) = true :=
    storageCell_eq_true (by omega) (by grind)
  exact h.store (by rwa [Nat.add_assoc]) (by omega)

theorem State.StorageOk.requestHdma (h : s.StorageOk) (hc : s.cfg.cgbMode = true) (v : Byte) :
    (s.requestHdma v).StorageOk :=
  (foldl_keeps (P := fun t => t.StorageOk ∧ t.cfg.cgbMode = true) State.hdmaByte
    (fun _ x ht => ⟨ht.1.hdmaByte ht.2 x, ht.2⟩) _ _ ⟨h.callOut (.hdma v), hc⟩).1

theorem State.StorageOk.memWrite (h : s.StorageOk) (a : Word) (v : Byte) : (s.memWrite a v).StorageOk := by
  apply memWrite_cases (P := State.StorageOk)
  case rom | xram | audio | video => intros; exact h.callOut _
  case vram => exact fun h1 h2 => h.store (storageCell_vramCell s h1 h2) (by unfold State.vramCell; omega)
  case wram =>
    intro h1 h2
    obtain ⟨h3, h4⟩ := unecho_mem_wram h1 h2
    exact h.store (storageCell_wramCell s h3 h4) (wramCell_ne_joypad s h4)
  case oam => exact fun h1 h2 => h.store (storageCell_zero _ (by omega)) (by omega)
  case gap => exact fun _ _ => h
  case joypad => exact fun _ => h.writeJoypad v
  case divider => exact fun _ => h.setIo (by decide) (by decide)
  case dma => exact fun _ => (h.setIo (by decide) (by decide)).dmaCopy v
  case boot => exact fun _ => h.setIo (by decide) (by decide)
  case hdma => exact fun _ hc => (h.setIo (by decide) (by decide)).requestHdma hc v
  case plain => exact fun hn _ _ h2 => h.store (storageCell_zero _ (by have := hn.1; omega)) (Nat.ne_of_gt hn.1)
  case ie => exact fun _ _ _ => h

end Sys2Proof.Machine
end

section
/-!
The timer's lines, and the invariant from an instruction to the end of its step.
-/

namespace Sys2Proof.Machine

variable {s t u : State}

/-! ## The timer -/

/-- The state with what the timer may write blanked. -/
def State.sansTimer (s : State) : State :=
  { s with mem := [], divAcc := 0, timAcc := 0, speed := false, speedPend := false }

theorem speedSwitch_sansTimer (s : State) : s.speedSwitch.sansTimer = s.sansTimer := by
  unfold State.speedSwitch
  split <;> rfl

theorem divTick_sansTimer (s : State) : s.divTick.sansTimer = s.sansTimer := by
  simp [State.sansTimer, State.divTick]

theorem divTicks_sansTimer (n : Nat) (s : State) : (State.divTicks n s).sansTimer = s.sansTimer := by
  induction n generalizing s with
  | zero => rfl
  | succ n ih => exact (ih s.divTick).trans (divTick_sansTimer s)

theorem counterEvent_sansTimer (s : State) : s.counterEvent.sansTimer = s.sansTimer := by
  unfold State.counterEvent
  split <;> rfl

theorem counterEvents_sansTimer (p n : Nat) (s : State) : (State.counterEvents p n s).sansTimer = s.sansTimer := by
  induction n generalizing s with
  | zero => rfl
  | succ n ih => exact (ih _).trans (counterEvent_sansTimer _)

theorem runCounter_sansTimer (s : State) : s.runCounter.sansTimer = s.sansTimer := by
  unfold State.runCounter
  dsimp only
  split
  · exact counterEvents_sansTimer _ _ s
  · rfl

theorem timerAdvance_sansTimer (s : State) (n : Nat) : (s.timerAdvance n).sansTimer = s.sansTimer :=
  calc (s.timerAdvance n).sansTimer
    _ = (s.speedSwitch.accumulate n).runDivider.sansTimer := runCounter_sansTimer _
    _ = s.speedSwitch.sansTimer := divTicks_sansTimer _ _
    _ = s.sansTimer := speedSwitch_sansTimer s

namespace State.StorageOk

theorem speedSwitch (h : s.StorageOk) : s.speedSwitch.StorageOk := by
  unfold State.speedSwitch
  split
  · exact setIo h (by decide) (by decide)
  · exact h

theorem divTick (h : s.StorageOk) : s.divTick.StorageOk := by
  have hs : State.StorageOk { s with divAcc := s.divAcc - divQuantum } := h.congr rfl rfl rfl
  exact hs.setIo (by decide) (by decide)

theorem divTicks (h : s.StorageOk) (n : Nat) : (State.divTicks n s).StorageOk := by
  induction n generalizing s with
  | zero => exact h
  | succ n ih => exact ih h.divTick

theorem counterEvent (h : s.StorageOk) : s.counterEvent.StorageOk := by
  unfold State.counterEvent
  split
  · exact (h.setIo (by decide) (by decide)).setIo (by decide) (by decide)
  · exact h.setIo (by decide) (by decide)

theorem counterEvents (h : s.StorageOk) (p n : Nat) : (State.counterEvents p n s).StorageOk := by
  induction n generalizing s with
  | zero => exact h
  | succ n ih => exact ih (counterEvent (s := { s with timAcc := s.timAcc - p }) h)

theorem runCounter (h : s.StorageOk) : s.runCounter.StorageOk := by
  unfold State.runCounter
  dsimp only
  split
  · exact h.counterEvents _ _
  · exact h

end State.StorageOk

/-- The divider's loop leaves DIVACC below one quantum and changes no other latch (R452). -/
theorem runDivider_latches (h : s.mem.wf = true) :
    s.runDivider.divAcc < 256 ∧ s.runDivider.speed = s.speed ∧ s.runDivider.speedPend = s.speedPend := by
  obtain ⟨-, hdiv, -, hrest⟩ := divTicks_eq (s.divAcc / divQuantum) s h
  refine ⟨?_, (congrArg State.speed hrest :), (congrArg State.speedPend hrest :)⟩
  rw [State.runDivider, hdiv, divQuantum]
  omega

theorem timaPeriod_bounds (tac : Byte) : 0 < timaPeriod tac ∧ timaPeriod tac ≤ 1024 := by
  unfold timaPeriod
  split <;> decide

/-- The counter line leaves TIMACC below the period and changes no other latch (R453). -/
theorem runCounter_latches (h : s.mem.wf = true) :
    s.runCounter.timAcc < 1024 ∧ s.runCounter.divAcc = s.divAcc ∧ s.runCounter.speed = s.speed ∧
      s.runCounter.speedPend = s.speedPend := by
  obtain ⟨hpos, hle⟩ := timaPeriod_bounds (s.io 0x07)
  have hmod := Nat.mod_lt s.timAcc hpos
  unfold State.runCounter
  dsimp only
  split
  · obtain ⟨-, -, htim, -, hrest⟩ := counterEvents_eq (timaPeriod (s.io 0x07)) (s.timAcc / timaPeriod (s.io 0x07)) s h
    refine ⟨?_, (congrArg State.divAcc hrest :), (congrArg State.speed hrest :), (congrArg State.speedPend hrest :)⟩
    rw [htim, ← Nat.mod_eq_sub_div_mul]
    exact Nat.lt_of_lt_of_le hmod hle
  · exact ⟨Nat.lt_of_lt_of_le hmod hle, rfl, rfl, rfl⟩

/-! ## The invariant within a step -/

/-- The clauses of the invariant, those about storage as one. -/
theorem inv_iff : s.Inv ↔ s.StorageOk ∧ s.f &&& 0x0F#8 = 0#8 ∧ s.divAcc < 256 ∧ s.timAcc < 1024 ∧
    s.speedPend = false ∧ (s.speed = true → s.cfg.cgbMode = true) :=
  ⟨fun h => ⟨⟨h.memCanonical, h.memExists, h.joypad, h.known⟩, h.lowNibble, h.divAcc, h.timAcc, h.noPending, h.speed⟩,
    fun ⟨⟨hcanonical, hexists, hjoypad, hknown⟩, hlow, hdiv, htim, hpend, hspeed⟩ =>
      ⟨hcanonical, hexists, hlow, hdiv, htim, hpend, hspeed, hjoypad, hknown⟩⟩

/-- The invariant is carried over to a state that has the same in every field it speaks of. -/
theorem State.Inv.congr {s t : State} (h : s.Inv)
    (he : (t.cfg, t.mem, t.known, t.f, t.divAcc, t.timAcc, t.speed, t.speedPend) =
      (s.cfg, s.mem, s.known, s.f, s.divAcc, s.timAcc, s.speed, s.speedPend)) : t.Inv := by
  simp only [Prod.mk.injEq] at he
  obtain ⟨hcfg, hmem, hknown, hf, hdiv, htim, hspeed, hpend⟩ := he
  obtain ⟨hstorage, hrest⟩ := inv_iff.1 h
  rw [inv_iff, hf, hdiv, htim, hspeed, hpend, hcfg]
  exact ⟨hstorage.congr hcfg hmem hknown, hrest⟩

/-- What holds between an instruction and the end of its step: the invariant, but that STOP may have left a switch
pending, in CGB_MODE and with no fault raised. -/
structure State.MidStep (s : State) : Prop where
  storage : s.StorageOk
  lowNibble : s.f &&& 0x0F#8 = 0#8
  divAcc : s.divAcc < 256
  timAcc : s.timAcc < 1024
  pending : s.speedPend = true → s.cfg.cgbMode = true ∧ s.fault = none
  speed : s.speed = true → s.cfg.cgbMode = true

namespace State.MidStep

theorem of_inv (h : s.Inv) : s.MidStep := by
  obtain ⟨hstorage, hlow, hdiv, htim, hpend, hspeed⟩ := inv_iff.1 h
  exact ⟨hstorage, hlow, hdiv, htim, fun hp => absurd (hpend.symm.trans hp) Bool.false_ne_true, hspeed⟩

theorem memWrite (h : s.MidStep) (a : Word) (v : Byte) : (s.memWrite a v).MidStep where
  storage := h.storage.memWrite a v
  lowNibble := by simpa using h.lowNibble
  divAcc := by simpa using h.divAcc
  timAcc := by simpa using h.timAcc
  pending := by simpa using h.pending
  speed := by simpa using h.speed

theorem stores (h : s.MidStep) (hs : s.Stores u) : u.MidStep := by
  induction hs with
  | nothing => exact h
  | store _ ih => exact ih.memWrite _ _

theorem cpuOnly (h : u.MidStep) (hc : u.CpuOnly t) : t.MidStep := by
  obtain ⟨-, -, -, hfault, hdiv, htim, hspeed, hpend, -, hmem, hcfg, hknown⟩ := hc.fields
  exact {
    storage := h.storage.congr hcfg hmem hknown
    lowNibble := hc.low h.lowNibble
    divAcc := hdiv ▸ h.divAcc
    timAcc := htim ▸ h.timAcc
    pending := by
      rw [hpend, hcfg, hfault]
      exact h.pending
    speed := by
      rw [hspeed, hcfg]
      exact h.speed }

/-- The end of a step: a pending switch is made, and both accumulators are brought below their periods. -/
theorem timerAdvance (h : s.MidStep) (n : Nat) : (s.timerAdvance n).Inv := by
  have hswitch : s.speedSwitch.speedPend = false ∧ (s.speedSwitch.speed = true → s.cfg.cgbMode = true) := by
    unfold State.speedSwitch
    split
    · rename_i hp
      exact ⟨rfl, fun _ => (h.pending hp).1⟩
    · rename_i hp
      exact ⟨by simpa using hp, h.speed⟩
  have hs : (s.speedSwitch.accumulate n).StorageOk := h.storage.speedSwitch
  have hd : (s.speedSwitch.accumulate n).runDivider.StorageOk := hs.divTicks _
  obtain ⟨hdiv, hspeed, hpend⟩ := runDivider_latches hs.canonical
  obtain ⟨htim, hdiv', hspeed', hpend'⟩ := runCounter_latches hd.canonical
  have hrest := timerAdvance_sansTimer s n
  have hf : (s.timerAdvance n).f = s.f := (congrArg State.f hrest :)
  have hcfg : (s.timerAdvance n).cfg = s.cfg := (congrArg State.cfg hrest :)
  refine inv_iff.2 ⟨hd.runCounter, hf ▸ h.lowNibble, ?_, htim, ?_, ?_⟩
  · rw [← hdiv'] at hdiv
    exact hdiv
  · exact (hpend'.trans hpend).trans hswitch.1
  · intro hsp
    rw [hcfg]
    exact hswitch.2 ((hspeed'.trans hspeed).symm.trans hsp)

theorem endStep (h : s.MidStep) : s.endStep.Inv := by
  unfold State.endStep
  split
  · rename_i hfault
    have hpend : s.speedPend = false := by
      refine Bool.eq_false_iff.2 fun hp => ?_
      rw [(h.pending hp).2] at hfault
      exact Bool.false_ne_true hfault
    exact inv_iff.2 ⟨h.storage, h.lowNibble, h.divAcc, h.timAcc, hpend, h.speed⟩
  · exact (h.timerAdvance s.elapsed).congr rfl

end State.MidStep

/-- An instruction run where the invariant holds and no fault is recorded. -/
theorem exec_midStep {i : Instr} (h : s.Inv) (hfault : s.fault = none) (he : exec i s = .next t) : t.MidStep := by
  obtain ⟨u, heff, hcpu⟩ := exec_effect he
  have hs := State.MidStep.of_inv h
  refine State.MidStep.cpuOnly ?_ hcpu
  cases heff with
  | stores hst => exact hs.stores hst
  | enable | disable | halt | stop =>
    exact ⟨hs.storage, hs.lowNibble, hs.divAcc, hs.timAcc, hs.pending, hs.speed⟩
  | switch _ hc => exact ⟨hs.storage, hs.lowNibble, hs.divAcc, hs.timAcc, fun _ => ⟨hc, hfault⟩, hs.speed⟩
  | fault =>
    exact ⟨hs.storage, hs.lowNibble, hs.divAcc, hs.timAcc,
      fun hp => absurd (h.noPending.symm.trans hp) Bool.false_ne_true, hs.speed⟩

end Sys2Proof.Machine
end

section
/-!
The lines of a step, each with what it may do and that it keeps the invariant; and the actions of the environment.
-/

namespace Sys2Proof.Machine

variable {s t u : State}

/-! ## The lines of a step -/

theorem andThen_eq_next {r : Result} {f : State → Result} (h : andThen r f = .next t) :
    ∃ u, r = .next u ∧ f u = .next t := by
  cases r with
  | next u => exact ⟨u, rfl, h⟩
  | fault => cases h
  | refused => cases h

/-- A step that answers a next state is a no-op, or its three lines in turn. -/
theorem step_cases (h : step s = .next t) :
    (s.idle = true ∧ t = s.idleStep) ∨
    (s.idle = false ∧ ∃ u v, s.beginStep.wakeTest.controller = .next u ∧ u.tickOrInstr = .next v ∧ t = v.endStep) := by
  cases hidle : s.idle with
  | true =>
    rw [step_idle hidle] at h
    cases h
    exact .inl ⟨rfl, rfl⟩
  | false =>
    rw [step_live hidle] at h
    obtain ⟨u, hu, h⟩ := andThen_eq_next h
    obtain ⟨v, hv, h⟩ := andThen_eq_next h
    cases h
    exact .inr ⟨rfl, u, v, hu, hv, rfl⟩

/-- The controller does nothing or makes one service (R403). -/
theorem controller_cases (h : s.controller = .next t) :
    t = s ∨ ∃ k, t = (s.serve k).addCycles serviceCycles := by
  cases hk : s.toServe with
  | none =>
    rw [controller_none hk] at h
    cases h
    exact .inl rfl
  | some k =>
    by_cases hp : s.ime = true ∨ s.cfg.imeBypass = .serve
    · rw [controller_some hk hp] at h
      cases h
      exact .inr ⟨k, rfl⟩
    · obtain ⟨hime, hpolicy⟩ := not_or.1 hp
      rw [controller_refuses hk (by simpa using hime) (by cases hb : s.cfg.imeBypass <;> simp_all)] at h
      cases h

/-- The last line before the timer is a halted tick or the fetched instruction. -/
theorem tickOrInstr_cases (h : s.tickOrInstr = .next t) : t = s.addCycles 4 ∨ exec s.fetch s = .next t := by
  by_cases hr : s.run = .halted
  · rw [tickOrInstr_halted hr] at h
    cases h
    exact .inl rfl
  · rw [tickOrInstr_running hr] at h
    exact .inr h

/-! ## The invariant over a step and over the environment -/

theorem inv_beginStep_wakeTest (h : s.Inv) : s.beginStep.wakeTest.Inv := by
  rw [wakeTest_frame]
  exact h.congr rfl

theorem inv_serve (h : s.Inv) (k : Fin 5) : (s.serve k).Inv := by
  obtain ⟨hstorage, hlow, hdiv, htim, hpend, hspeed⟩ := inv_iff.1 h
  have h1 : State.StorageOk { s with ime := false, run := if s.run = RunState.halted then .running else s.run } :=
    hstorage.congr rfl rfl rfl
  have h2 : (s.serve k).StorageOk :=
    (((h1.memWrite _ _).memWrite _ _).congr rfl rfl rfl).setIo (by decide) (by decide)
  refine inv_iff.2 ⟨h2, ?_, ?_, ?_, ?_, ?_⟩ <;> simpa [State.serve]

theorem inv_controller (h : s.Inv) (hc : s.controller = .next t) : t.Inv := by
  obtain rfl | ⟨k, rfl⟩ := controller_cases hc
  · exact h
  · exact (inv_serve h k).congr rfl

theorem fault_controller (hc : s.controller = .next t) : t.fault = s.fault := by
  obtain rfl | ⟨k, rfl⟩ := controller_cases hc
  · rfl
  · simp [State.serve]

theorem fault_wakeTest (h : s.idle = false) : s.beginStep.wakeTest.fault = none := by
  rw [wakeTest_frame]
  simp only [State.idle, Bool.or_eq_false_iff, Option.isSome_eq_false_iff, Option.isNone_iff_eq_none] at h
  exact h.1

/-- The step half of O59. -/
theorem inv_step (h : s.Inv) (hs : step s = .next t) : t.Inv := by
  obtain ⟨-, rfl⟩ | ⟨hidle, u, v, hu, hv, rfl⟩ := step_cases hs
  · exact h.congr rfl
  have hinv : u.Inv := inv_controller (inv_beginStep_wakeTest h) hu
  have hfault : u.fault = none := (fault_controller hu).trans (fault_wakeTest hidle)
  refine State.MidStep.endStep ?_
  obtain rfl | he := tickOrInstr_cases hv
  · exact .of_inv (hinv.congr rfl)
  · exact exec_midStep hinv hfault he

/-- The environment half of O59. -/
theorem inv_act (h : s.Inv) {e : EnvAction} (hp : e.permitted s) : (s.act e).Inv := by
  obtain ⟨hstorage, hlow, hdiv, htim, hpend, hspeed⟩ := inv_iff.1 h
  cases e with
  | request k =>
    exact inv_iff.2 ⟨hstorage.setIo (by decide) (by decide), hlow, hdiv, htim, hpend, hspeed⟩
  | reset =>
    obtain ⟨⟨hcanonical, hexists, hjoypad, -⟩, hrest⟩ := inv_iff.1 (invariantAtReset s.cfg)
    exact inv_iff.2 ⟨⟨hcanonical, hexists, hjoypad, rising_filter _ _ hstorage.rising⟩, hrest⟩
  | restore snapshot =>
    obtain ⟨hsnap, hcfg⟩ := hp
    obtain ⟨⟨hcanonical, hexists, hjoypad, -⟩, hrest⟩ := inv_iff.1 hsnap
    rw [hcfg] at hexists hrest
    exact inv_iff.2 ⟨⟨hcanonical, hexists, hjoypad, rising_filter _ _ hstorage.rising⟩, hrest⟩
  | answers cells =>
    obtain ⟨hcanonical, hexists, hjoypad, -⟩ := hstorage
    exact inv_iff.2 ⟨⟨hcanonical, hexists, hjoypad, hp⟩, hlow, hdiv, htim, hpend, hspeed⟩
  | vram bank offset v =>
    show (s.hdmaLater bank offset v).Inv
    unfold State.hdmaLater
    split
    · rename_i hasked
      have hcgb : s.cfg.cgbMode = true := (Bool.and_eq_true_iff.1 hasked).1
      exact inv_iff.2 ⟨hstorage.hdmaByte hcgb _, hlow, hdiv, htim, hpend, hspeed⟩
    · exact h

/-- Settles O59: an instruction leaves the invariant but for a pending switch, which the timer's line then makes; every
other line of a step, and every action of the environment, keeps it as it is. -/
theorem everyStepKeepsTheInvariant : Obligations.EveryStepKeepsTheInvariant :=
  ⟨fun _ _ h hs => inv_step h hs, fun _ _ h hp => inv_act h hp⟩

end Sys2Proof.Machine
end

section
/-!
The boot overlay over a step, and what each action of the environment changes.
-/

namespace Sys2Proof.Machine

variable {s t u : State}

/-! ## The overlay and the parameters over a step -/

/-- From `s` to `t` the boot overlay does not come back and the parameters stay (R52; log 3). -/
structure State.OverlayKept (s t : State) : Prop where
  off : s.bootOn = false → t.bootOn = false
  cfg : t.cfg = s.cfg

theorem State.OverlayKept.trans (h : s.OverlayKept t) (h' : t.OverlayKept u) : s.OverlayKept u :=
  ⟨fun hs => h'.off (h.off hs), h'.cfg.trans h.cfg⟩

/-- Nothing of the two changes. -/
theorem State.OverlayKept.of_eq (hb : t.bootOn = s.bootOn) (hc : t.cfg = s.cfg) : s.OverlayKept t :=
  ⟨fun hs => hb.trans hs, hc⟩

theorem dmaCopy_bootOn (s : State) (v : Byte) : (s.dmaCopy v).bootOn = s.bootOn :=
  foldl_keeps (P := fun t => t.bootOn = s.bootOn) (State.dmaByte v) (fun _ _ ht => ht) _ s rfl

theorem requestHdma_bootOn (s : State) (v : Byte) : (s.requestHdma v).bootOn = s.bootOn :=
  foldl_keeps (P := fun t => t.bootOn = s.bootOn) State.hdmaByte (fun _ _ ht => ht) _ (s.callOut (.hdma v)) rfl

/-- The one store that writes BOOT_ON clears it (R115). -/
theorem overlayKept_memWrite (s : State) (a : Word) (v : Byte) : s.OverlayKept (s.memWrite a v) := by
  refine ⟨?_, memWrite_cfg s a v⟩
  apply memWrite_cases (P := fun t => s.bootOn = false → t.bootOn = false)
  case dma => exact fun _ h => (dmaCopy_bootOn _ v).trans h
  case hdma => exact fun _ _ h => (requestHdma_bootOn _ v).trans h
  case boot => exact fun _ _ => rfl
  all_goals intros; assumption

theorem overlayKept_stores (h : s.Stores u) : s.OverlayKept u := by
  induction h with
  | nothing => exact .of_eq rfl rfl
  | store _ ih => exact ih.trans (overlayKept_memWrite _ _ _)

theorem overlayKept_exec {i : Instr} (h : exec i s = .next t) : s.OverlayKept t := by
  obtain ⟨u, heff, hcpu⟩ := exec_effect h
  obtain ⟨-, -, -, -, -, -, -, -, hboot, -, hcfg, -⟩ := hcpu.fields
  refine State.OverlayKept.trans ?_ (.of_eq hboot hcfg)
  cases heff with
  | stores hst => exact overlayKept_stores hst
  | enable | disable | halt | stop | switch | fault => exact .of_eq rfl rfl

theorem overlayKept_push16 (s : State) (w : Word) : s.OverlayKept (s.push16 w) :=
  ((overlayKept_memWrite s _ _).trans (overlayKept_memWrite _ _ _)).trans (.of_eq rfl rfl)

theorem overlayKept_serve (s : State) (k : Fin 5) : s.OverlayKept (s.serve k) :=
  have h := overlayKept_push16
    { s with ime := false, run := if s.run = RunState.halted then .running else s.run } s.pc
  ⟨h.off, h.cfg⟩

theorem overlayKept_controller (h : s.controller = .next t) : s.OverlayKept t := by
  obtain rfl | ⟨k, rfl⟩ := controller_cases h
  · exact .of_eq rfl rfl
  · exact (overlayKept_serve s k).trans (.of_eq rfl rfl)

theorem overlayKept_endStep (s : State) : s.OverlayKept s.endStep := by
  unfold State.endStep
  split
  · exact .of_eq rfl rfl
  · have h := timerAdvance_sansTimer s s.elapsed
    exact .of_eq (congrArg State.bootOn h :) (congrArg State.cfg h :)

theorem overlayKept_step (h : step s = .next t) : s.OverlayKept t := by
  obtain ⟨-, rfl⟩ | ⟨-, u, v, hu, hv, rfl⟩ := step_cases h
  · exact .of_eq rfl rfl
  have hwake : s.OverlayKept s.beginStep.wakeTest := by
    rw [wakeTest_frame]
    exact .of_eq rfl rfl
  have hline : u.OverlayKept v := by
    obtain rfl | he := tickOrInstr_cases hv
    · exact .of_eq rfl rfl
    · exact overlayKept_exec he
  exact ((hwake.trans (overlayKept_controller hu)).trans hline).trans (overlayKept_endStep v)

/-! ## The actions of the environment -/

theorem getLsbD_sourceMask (k : Fin 5) {i : Nat} (hi : i < 8) : (sourceMask k).getLsbD i = decide (i = k) := by
  rw [sourceMask, BitVec.getLsbD_ofNat, Nat.testBit_two_pow]
  simp [hi, eq_comm]

/-- A request sets its bit and no other (R412). -/
theorem getLsbD_requestInterrupt (h : s.mem.wf = true) (k : Fin 5) {i : Nat} (hi : i < 8) :
    ((s.requestInterrupt k).mem.read 0xFF0F).getLsbD i = (decide (i = k) || (s.mem.read 0xFF0F).getLsbD i) := by
  have hread : (s.requestInterrupt k).mem.read 0xFF0F = s.mem.read 0xFF0F ||| sourceMask k :=
    read_write_same s.mem 0xFF0F _ h
  rw [hread, BitVec.getLsbD_or, getLsbD_sourceMask k hi, Bool.or_comm]

/-- A request of a source whose bit is set already changes nothing, the storage list included. -/
theorem requestInterrupt_of_set (h : s.mem.wf = true) {k : Fin 5} (hset : (s.mem.read 0xFF0F).getLsbD k = true) :
    s.requestInterrupt k = s := by
  have hor : s.mem.read 0xFF0F ||| sourceMask k = s.mem.read 0xFF0F := by
    apply BitVec.eq_of_getLsbD_eq
    intro i hi
    rw [BitVec.getLsbD_or, getLsbD_sourceMask k hi]
    by_cases hik : i = k
    · simp [hik, hset]
    · simp [hik]
  have hmem : s.mem.write 0xFF0F (s.mem.read 0xFF0F ||| sourceMask k) = s.mem := by
    rw [hor, write_read_same s.mem 0xFF0F h]
  exact congrArg (fun m => { s with mem := m }) hmem

theorem hdmaAsked_iff (s : State) : s.hdmaAsked = true ↔ s.cfg.cgbMode = true ∧ ∃ w, Call.hdma w ∈ s.calls := by
  simp only [State.hdmaAsked, Bool.and_eq_true, List.any_eq_true]
  refine and_congr_right fun _ => ⟨?_, fun ⟨w, hw⟩ => ⟨_, hw, rfl⟩⟩
  rintro ⟨c, hc, hh⟩
  cases c with
  | hdma w => exact ⟨w, hc⟩
  | romWrite | xramWrite | audioWrite | videoWrite => cases hh

/-- Settles O60: the overlay through the lines of a step, then the actions one by one. -/
theorem overlayAndEnvironmentActions : Obligations.OverlayAndEnvironmentActions := by
  refine ⟨fun s t h => ⟨(overlayKept_step h).off, (overlayKept_step h).cfg⟩, fun s e => ?_⟩
  cases e with
  | request k =>
    exact ⟨rfl, rfl, fun j hj => read_write_other _ _ hj,
      fun h => ⟨fun i hi => getLsbD_requestInterrupt h k hi, fun hset => requestInterrupt_of_set h hset⟩⟩
  | reset => exact ⟨rfl, rfl, forgetInput_find s⟩
  | restore snapshot => exact ⟨rfl, rfl, forgetInput_find s⟩
  | answers cells => exact ⟨rfl, rfl⟩
  | vram bank offset v =>
    by_cases hasked : s.hdmaAsked = true
    · have ht : s.act (.vram bank offset v) = s.hdmaByte (bank, offset, v) := if_pos hasked
      rw [ht]
      exact ⟨rfl, fun _ => rfl, fun hno => absurd ((hdmaAsked_iff s).1 hasked) hno⟩
    · have ht : s.act (.vram bank offset v) = s := if_neg hasked
      rw [ht]
      exact ⟨rfl, fun h => absurd ((hdmaAsked_iff s).2 h) hasked, fun _ => rfl⟩

end Sys2Proof.Machine
end

section
/-!
The lines of `MemRead`: what each region of the address space reaches, and the bank selects.
-/

namespace Sys2Proof.Machine

variable {s : State} {a : Word}

/-! ## A read by what its address reaches -/

theorem memRead_of_boot {v : Byte} (h : s.backing a = .boot v) : s.memRead a = v := by
  rw [State.memRead, h]

theorem memRead_of_cell {k : Nat} (h : s.backing a = .cell k) : s.memRead a = s.mem.read k := by
  rw [State.memRead, h]

theorem memRead_of_ie (h : s.backing a = .ie) : s.memRead a = s.ie := by
  rw [State.memRead, h]

theorem memRead_of_ask {q : Query} (h : s.backing a = .ask q) : s.memRead a = s.answer a q := by
  rw [State.memRead, h]

/-! ## What an address reaches where the overlay does not answer -/

/-- The overlay gives no byte at `a`: it is off, or `a` is outside its domain. -/
def State.bootHidden (s : State) (a : Word) : Prop := s.bootOn = false ∨ bootRom s.cfg a.toNat = none

theorem bootHidden_of_high (a : Word) (hwf : s.cfg.wf = true) (h : 0x8000 ≤ a.toNat) : s.bootHidden a :=
  .inr (bootRom_high hwf h)

theorem backing_boot {v : Byte} (hon : s.bootOn = true) (hv : bootRom s.cfg a.toNat = some v) :
    s.backing a = .boot v := by
  simp only [State.backing, hon, if_true, hv]

/-- The lines of R100 behind the overlay's. -/
theorem backing_of_bootHidden (h : s.bootHidden a) :
    s.backing a =
      if a.toNat < 0x8000 then .ask (.rom a)
      else if a.toNat < 0xA000 then .cell (s.vramCell a.toNat)
      else if a.toNat < 0xC000 then .ask (.xram a)
      else if a.toNat < 0xFE00 then .cell (s.wramCell (unecho a.toNat))
      else if a.toNat < 0xFEA0 then .cell a.toNat
      else if a.toNat < 0xFF00 then .ask (.gap a)
      else if a.toNat = 0xFF00 then .ask (.input (s.io 0x00))
      else if inRanges s.cfg.audioOwned a.toNat then .ask (.audio a)
      else if inRanges s.cfg.videoOwned a.toNat then .ask (.video a)
      else if a.toNat < 0xFFFF then .cell a.toNat
      else .ie := by
  have hnone : (if s.bootOn then bootRom s.cfg a.toNat else none) = none := by
    rcases h with h | h
    · rw [h]; rfl
    · rw [h, ite_self]
  simp only [State.backing, hnone]

theorem backing_rom (h : s.bootHidden a) (h2 : a.toNat < 0x8000) : s.backing a = .ask (.rom a) := by
  simp (disch := omega) only [backing_of_bootHidden h, if_pos]

section HighAddresses

variable (hwf : s.cfg.wf = true)
include hwf

theorem backing_vram (h1 : 0x8000 ≤ a.toNat) (h2 : a.toNat < 0xA000) :
    s.backing a = .cell (s.vbank * 0x10000 + a.toNat) := by
  simp (disch := omega) only [backing_of_bootHidden (bootHidden_of_high a hwf h1), if_pos, if_neg, State.vramCell]

theorem backing_xram (h1 : 0xA000 ≤ a.toNat) (h2 : a.toNat < 0xC000) : s.backing a = .ask (.xram a) := by
  simp (disch := omega) only [backing_of_bootHidden (bootHidden_of_high a hwf (by omega)), if_pos, if_neg]

/-- Work RAM and its echo. -/
theorem backing_wram (h1 : 0xC000 ≤ a.toNat) (h2 : a.toNat < 0xFE00) :
    s.backing a = .cell (s.wramCell (unecho a.toNat)) := by
  simp (disch := omega) only [backing_of_bootHidden (bootHidden_of_high a hwf (by omega)), if_pos, if_neg]

theorem backing_oam (h1 : 0xFE00 ≤ a.toNat) (h2 : a.toNat < 0xFEA0) : s.backing a = .cell a.toNat := by
  simp (disch := omega) only [backing_of_bootHidden (bootHidden_of_high a hwf (by omega)), if_pos, if_neg]

theorem backing_gap (h1 : 0xFEA0 ≤ a.toNat) (h2 : a.toNat < 0xFF00) : s.backing a = .ask (.gap a) := by
  simp (disch := omega) only [backing_of_bootHidden (bootHidden_of_high a hwf (by omega)), if_pos, if_neg]

theorem backing_joypad (h : a.toNat = 0xFF00) : s.backing a = .ask (.input (s.mem.read 0xFF00)) := by
  simp (disch := omega) only [backing_of_bootHidden (bootHidden_of_high a hwf (by omega)), if_pos, if_neg]
  rfl

theorem backing_audio (h : inRanges s.cfg.audioOwned a.toNat = true) : s.backing a = .ask (.audio a) := by
  have hport := (owned_port hwf (.inl h)).1
  simp (disch := omega) only [backing_of_bootHidden (bootHidden_of_high a hwf (by omega)), if_neg, h, if_true]

theorem backing_video (h : inRanges s.cfg.videoOwned a.toNat = true) : s.backing a = .ask (.video a) := by
  have hport := (owned_port hwf (.inr h)).1
  have haudio : inRanges s.cfg.audioOwned a.toNat = false :=
    Bool.eq_false_iff.2 fun ha => Bool.false_ne_true ((owners_disjoint hwf ha).symm.trans h)
  simp (disch := omega) only [backing_of_bootHidden (bootHidden_of_high a hwf (by omega)), if_neg, haudio,
    Bool.false_eq_true, if_false, h, if_true]

theorem backing_port (h1 : 0xFF00 < a.toNat)
    (ho : (inRanges s.cfg.audioOwned a.toNat || inRanges s.cfg.videoOwned a.toNat) = false) :
    s.backing a = if a.toNat < 0xFFFF then .cell a.toNat else .ie := by
  obtain ⟨haudio, hvideo⟩ := Bool.or_eq_false_iff.1 ho
  simp (disch := omega) only [backing_of_bootHidden (bootHidden_of_high a hwf (by omega)), if_neg, haudio, hvideo,
    Bool.false_eq_true, if_false]

/-- Nobody owns the address of IE. -/
theorem not_owned_ie : (inRanges s.cfg.audioOwned 0xFFFF || inRanges s.cfg.videoOwned 0xFFFF) = false := by
  rw [Bool.eq_false_iff, ne_eq, Bool.or_eq_true]
  intro h
  have hlt := (owned_port hwf h).2.1
  omega

/-- An echo address reads what its work-RAM address reads (R107). -/
theorem memRead_echo (h1 : 0xE000 ≤ a.toNat) (h2 : a.toNat < 0xFE00) :
    s.memRead a = s.memRead (a - 0x2000#16) := by
  have hsub : (a - 0x2000#16).toNat = a.toNat - 0x2000 := by
    rw [BitVec.toNat_sub, BitVec.toNat_ofNat]
    omega
  rw [memRead_of_cell (backing_wram hwf (by omega) h2),
    memRead_of_cell (backing_wram (a := a - 0x2000#16) hwf (by omega) (by omega)), hsub]
  simp (disch := omega) only [unecho, if_pos, if_neg]

end HighAddresses

/-! ## The bank selects -/

theorem wbank_eq (s : State) :
    s.wbank = if s.cfg.cgbMode = true ∧ (s.mem.read 0xFF70).toNat % 8 ≠ 0 then (s.mem.read 0xFF70).toNat % 8
      else 1 := by
  show (if s.cfg.cgbMode then max 1 ((s.mem.read 0xFF70).toNat % 8) else 1) = _
  cases s.cfg.cgbMode with
  | false => simp
  | true =>
    simp only [if_true, true_and]
    split <;> omega

/-- Settles O41, region by region: what the address reaches, then what a read of that gives. -/
theorem readsFollowTheMap : Obligations.ReadsFollowTheMap := by
  intro s a hwf
  refine ⟨fun v hon hv => memRead_of_boot (backing_boot hon hv), fun h h2 => memRead_of_ask (backing_rom h h2),
    fun h1 h2 => memRead_of_cell (backing_vram hwf h1 h2), fun h1 h2 => memRead_of_ask (backing_xram hwf h1 h2),
    fun h1 h2 => ?fixed, fun h1 h2 => ?banked, rfl, wbank_eq s, fun h1 h2 => memRead_echo hwf h1 h2,
    fun h1 h2 => memRead_of_cell (backing_oam hwf h1 h2), fun h1 h2 => memRead_of_ask (backing_gap hwf h1 h2),
    fun h => memRead_of_ask (backing_joypad hwf h), fun h => memRead_of_ask (backing_audio hwf h),
    fun h => memRead_of_ask (backing_video hwf h), fun h1 h2 ho => ?port, fun h => ?ie⟩
  case fixed =>
    rw [memRead_of_cell (backing_wram hwf h1 (by omega))]
    simp (disch := omega) only [State.wramCell, unecho, if_pos, if_neg]
  case banked =>
    rw [memRead_of_cell (backing_wram hwf (by omega) (by omega))]
    simp (disch := omega) only [State.wramCell, unecho, if_neg]
  case port => exact memRead_of_cell ((backing_port hwf h1 ho).trans (if_pos h2))
  case ie =>
    have ho := not_owned_ie hwf
    rw [← h] at ho
    exact memRead_of_ie ((backing_port hwf (by omega) ho).trans (if_neg (by omega)))

end Sys2Proof.Machine
end

section
/-!
The register file, the flags byte, and the values reset leaves.
-/

namespace Sys2Proof.Machine

/-! ## Registers and flags -/

/-- Of the state a register write changes the seven registers only. -/
theorem setReg_frame (s : State) (r : Reg8) (v : Byte) :
    { s.setReg r v with a := s.a, b := s.b, c := s.c, d := s.d, e := s.e, h := s.h, l := s.l } = s := by
  cases r <;> rfl

/-- Settles O5: the register file's laws, and the views as high byte times 256 plus low byte. -/
theorem registerFileAndViews : Obligations.RegisterFileAndViews := by
  intro s r v w
  refine ⟨⟨rfl, rfl, rfl, rfl, rfl, rfl, rfl⟩, getReg_setReg s r v, fun q hq => getReg_setReg_ne s v hq,
    setReg_frame s r v, ⟨?bc, ?de, ?hl, ?af⟩, rfl, rfl, rfl, rfl, rfl, hi_toNat w, lo_toNat w, rfl, rfl, rfl, rfl, rfl⟩
  case bc => exact mk16_toNat s.b s.c
  case de => exact mk16_toNat s.d s.e
  case hl => exact mk16_toNat s.h s.l
  case af => exact mk16_toNat s.a s.f

/-- Settles O6: the positions are the definitions, and a write of the flags is read back flag by flag. -/
theorem flagPositions : Obligations.FlagPositions := fun s x =>
  ⟨rfl, rfl, rfl, rfl, setFlags_fz s x, setFlags_fn s x, setFlags_fh s x, setFlags_fc s x, setFlags_low s x, rfl⟩

/-! ## Reset -/

/-- BOOT_ON is set at reset iff the overlay's domain is not empty (R60). -/
theorem bootOn_resetWith (c : Config) :
    (State.resetWith c).bootOn = true ↔ ∃ n, inRanges c.bootRanges n = true := by
  simp only [State.resetWith, inRanges, List.any_eq_true, Bool.and_eq_true, decide_eq_true_eq]
  constructor
  · rintro ⟨r, hr, hlt⟩
    exact ⟨r.1, r, hr, Nat.le_refl _, hlt⟩
  · rintro ⟨n, r, hr, hle, hlt⟩
    exact ⟨r, hr, Nat.lt_of_le_of_lt hle hlt⟩

/-- Settles O57: each value is the one written in the reset state but BOOT_ON, which is a question about ranges. -/
theorem resetValues : Obligations.ResetValues := by
  intro c s₀
  exact ⟨rfl, rfl, BitVec.zero_and, rfl, rfl, rfl, rfl, rfl, rfl, rfl, rfl, bootOn_resetWith c,
    fun p _ => io_resetWith c p, rfl, rfl⟩

end Sys2Proof.Machine
end

section
/-!
The lines of `MemWrite`: what each region of the address space does with a byte, what a call outward is, and that
storage gives back what was written to it.
-/

namespace Sys2Proof.Machine

variable {s : State} {a : Word}

/-! ## The lines of a write -/

theorem memWrite_rom (v : Byte) (h : a.toNat < 0x8000) : s.memWrite a v = s.callOut (.romWrite a v) := by
  simp (disch := omega) only [State.memWrite, if_pos]

theorem memWrite_vram (v : Byte) (h1 : 0x8000 ≤ a.toNat) (h2 : a.toNat < 0xA000) :
    s.memWrite a v = s.store (s.vramCell a.toNat) v := by
  simp (disch := omega) only [State.memWrite, if_pos, if_neg]

theorem memWrite_xram (v : Byte) (h1 : 0xA000 ≤ a.toNat) (h2 : a.toNat < 0xC000) :
    s.memWrite a v = s.callOut (.xramWrite a v) := by
  simp (disch := omega) only [State.memWrite, if_pos, if_neg]

/-- Work RAM and its echo. -/
theorem memWrite_wram (v : Byte) (h1 : 0xC000 ≤ a.toNat) (h2 : a.toNat < 0xFE00) :
    s.memWrite a v = s.store (s.wramCell (unecho a.toNat)) v := by
  simp (disch := omega) only [State.memWrite, if_pos, if_neg]

/-- An echo address writes what its work-RAM address writes (R107). -/
theorem memWrite_echo (v : Byte) (h1 : 0xE000 ≤ a.toNat) (h2 : a.toNat < 0xFE00) :
    s.memWrite a v = s.memWrite (a - 0x2000#16) v := by
  have hsub : (a - 0x2000#16).toNat = a.toNat - 0x2000 := by
    rw [BitVec.toNat_sub, BitVec.toNat_ofNat]
    omega
  rw [memWrite_wram v (by omega) h2, memWrite_wram (a := a - 0x2000#16) v (by omega) (by omega), hsub]
  simp (disch := omega) only [unecho, if_pos, if_neg]

theorem memWrite_oam (v : Byte) (h1 : 0xFE00 ≤ a.toNat) (h2 : a.toNat < 0xFEA0) :
    s.memWrite a v = s.store a.toNat v := by
  simp (disch := omega) only [State.memWrite, if_pos, if_neg]

theorem memWrite_gap (v : Byte) (h1 : 0xFEA0 ≤ a.toNat) (h2 : a.toNat < 0xFF00) : s.memWrite a v = s := by
  simp (disch := omega) only [State.memWrite, if_pos, if_neg]

theorem memWrite_joypad (v : Byte) (h : a.toNat = 0xFF00) : s.memWrite a v = s.writeJoypad v := by
  simp (disch := omega) only [State.memWrite, if_pos, if_neg]

theorem memWrite_divider (v : Byte) (h : a.toNat = 0xFF04) : s.memWrite a v = s.setIo 0x04 0x00#8 := by
  simp (disch := omega) only [State.memWrite, if_pos, if_neg]

theorem memWrite_dma (v : Byte) (h : a.toNat = 0xFF46) : s.memWrite a v = (s.setIo 0x46 v).dmaCopy v := by
  simp (disch := omega) only [State.memWrite, if_pos, if_neg]

theorem memWrite_boot (v : Byte) (h : a.toNat = 0xFF50) :
    s.memWrite a v = { s.setIo 0x50 v with bootOn := false } := by
  simp (disch := omega) only [State.memWrite, if_pos, if_neg]

theorem memWrite_hdma (v : Byte) (h : a.toNat = 0xFF55) (hc : s.cfg.cgbMode = true) :
    s.memWrite a v = (s.setIo 0x55 v).requestHdma v := by
  simp (disch := omega) only [State.memWrite, if_neg, if_pos (And.intro h hc)]

/-- Behind the intercepts a write goes to the owner of the port, if it has one. -/
theorem memWrite_of_noIntercept (v : Byte) (h : s.noIntercept a) :
    s.memWrite a v =
      if inRanges s.cfg.audioOwned a.toNat then s.callOut (.audioWrite a v)
      else if inRanges s.cfg.videoOwned a.toNat then s.callOut (.videoWrite a v)
      else if a.toNat < 0xFFFF then s.store a.toNat v
      else { s with ie := v } := by
  obtain ⟨h0, h04, h46, h50, h55⟩ := h
  simp (disch := omega) only [State.memWrite, if_neg]

/-- A port nobody owns, or IE. -/
theorem memWrite_unowned (v : Byte) (h : s.noIntercept a)
    (ho : (inRanges s.cfg.audioOwned a.toNat || inRanges s.cfg.videoOwned a.toNat) = false) :
    s.memWrite a v = if a.toNat < 0xFFFF then s.store a.toNat v else { s with ie := v } := by
  obtain ⟨haudio, hvideo⟩ := Bool.or_eq_false_iff.1 ho
  simp only [memWrite_of_noIntercept v h, haudio, hvideo, Bool.false_eq_true, if_false]

section LegalParameters

variable (hwf : s.cfg.wf = true)
include hwf

/-- No owner holds an intercept (R98). -/
theorem noIntercept_of_owned
    (h : inRanges s.cfg.audioOwned a.toNat = true ∨ inRanges s.cfg.videoOwned a.toNat = true) : s.noIntercept a := by
  obtain ⟨h0, -, h04, -, -, -, -, h46, -, -, h50, h55, -⟩ := owned_port hwf h
  exact ⟨h0, h04, h46, h50, fun hc => h55 hc.1⟩

theorem memWrite_audio (v : Byte) (h : inRanges s.cfg.audioOwned a.toNat = true) :
    s.memWrite a v = s.callOut (.audioWrite a v) := by
  rw [memWrite_of_noIntercept v (noIntercept_of_owned hwf (.inl h)), if_pos h]

theorem memWrite_video (v : Byte) (h : inRanges s.cfg.videoOwned a.toNat = true) :
    s.memWrite a v = s.callOut (.videoWrite a v) := by
  have haudio : ¬ inRanges s.cfg.audioOwned a.toNat = true := fun ha =>
    Bool.false_ne_true ((owners_disjoint hwf ha).symm.trans h)
  rw [memWrite_of_noIntercept v (noIntercept_of_owned hwf (.inr h)), if_neg haudio, if_pos h]

theorem memWrite_ie (v : Byte) (h : a.toNat = 0xFFFF) : s.memWrite a v = { s with ie := v } := by
  have ho := not_owned_ie hwf
  rw [← h] at ho
  rw [memWrite_unowned v ⟨by omega, by omega, by omega, by omega, by omega⟩ ho, if_neg (by omega)]

end LegalParameters

/-! ## What a call outward does -/

/-- An HDMA request makes no known answer lapse (log 6). -/
theorem callOut_hdma_known (s : State) (v : Byte) : (s.callOut (.hdma v)).known = s.known :=
  List.filter_eq_self.2 fun _ _ => rfl

/-- A fold of updates that each change storage only changes storage only. -/
theorem foldl_eq_mem {α : Type} (g : State → α → State) (hg : ∀ t i, g t i = { t with mem := (g t i).mem })
    (xs : List α) (s : State) : xs.foldl g s = { s with mem := (xs.foldl g s).mem } := by
  induction xs generalizing s with
  | nil => rfl
  | cons i xs ih =>
    exact (ih (g s i)).trans (congrArg (fun t : State => { t with mem := (xs.foldl g (g s i)).mem }) (hg s i))

/-- The DMA copy changes storage and nothing else (R114). -/
theorem dmaCopy_eq_mem (s : State) (v : Byte) : s.dmaCopy v = { s with mem := (s.dmaCopy v).mem } :=
  foldl_eq_mem (State.dmaByte v) (fun _ _ => rfl) _ s

/-- An HDMA request changes storage and the record of the calls, and nothing else (R99). -/
theorem requestHdma_eq_mem_calls (s : State) (v : Byte) :
    s.requestHdma v = { s with mem := (s.requestHdma v).mem, calls := .hdma v :: s.calls } := by
  have hcall : s.callOut (.hdma v) = { s with calls := .hdma v :: s.calls } := by
    rw [← callOut_hdma_known s v]
    rfl
  exact (foldl_eq_mem State.hdmaByte (fun _ _ => rfl) _ _).trans
    (congrArg (fun t : State => { t with mem := (s.requestHdma v).mem }) hcall)

/-- Settles O42, region by region; of the HDMA request and of a call, what they record and what they leave alone. -/
theorem writesFollowTheMap : Obligations.WritesFollowTheMap := by
  intro s a v hwf
  refine ⟨memWrite_rom v, memWrite_vram v, memWrite_xram v, fun h1 h2 => ?fixed, fun h1 h2 => ?banked,
    memWrite_echo v, memWrite_oam v, memWrite_gap v, memWrite_joypad v, memWrite_divider v, memWrite_dma v,
    memWrite_boot v, memWrite_hdma v, memWrite_audio hwf v, memWrite_video hwf v, fun h1 h2 ho h04 h46 h50 h55 => ?port,
    memWrite_ie hwf v, fun c => ⟨rfl, fun m => ?lapses⟩, requestHdma_eq_mem_calls s v, fun k hk => ?vram⟩
  case fixed =>
    rw [memWrite_wram v h1 (by omega)]
    simp (disch := omega) only [State.wramCell, unecho, if_pos, if_neg, State.store]
  case banked =>
    rw [memWrite_wram v (by omega) (by omega)]
    simp (disch := omega) only [State.wramCell, unecho, if_neg, State.store]
  case port =>
    have hn : s.noIntercept a := ⟨h1, h04, h46, h50, fun h => Bool.false_ne_true ((h55 h.1).symm.trans h.2)⟩
    exact (memWrite_unowned v hn ho).trans (if_pos h2)
  case lapses => cases c <;> exact callOut_find s _ m
  case vram => exact requestHdma_read_other s v k (by omega)

/-! ## A byte read back -/

theorem readsBack_iff : s.readsBack a = true ↔
    (0x8000 ≤ a.toNat ∧ a.toNat < 0xA000) ∨ (0xC000 ≤ a.toNat ∧ a.toNat < 0xFEA0) ∨
      (0xFF00 < a.toNat ∧ a.toNat ≠ 0xFF04 ∧
        (inRanges s.cfg.audioOwned a.toNat || inRanges s.cfg.videoOwned a.toNat) = false) := by
  simp [State.readsBack, or_assoc, and_assoc]

/-- The video-RAM bank depends on the variant and on its select port (R53). -/
theorem vbank_congr {t : State} (hc : t.cfg = s.cfg) (hm : t.mem.read 0xFF4F = s.mem.read 0xFF4F) :
    t.vbank = s.vbank := by
  unfold State.vbank State.io
  rw [hc, hm]

/-- The work-RAM bank depends on the variant and on its select port (R54). -/
theorem wbank_congr {t : State} (hc : t.cfg = s.cfg) (hm : t.mem.read 0xFF70 = s.mem.read 0xFF70) :
    t.wbank = s.wbank := by
  unfold State.wbank State.io
  rw [hc, hm]

/-- A byte stored in video RAM leaves the bank select alone. -/
theorem vbank_store_vramCell (v : Byte) {n : Nat} (h : n < 0xA000) :
    (s.store (s.vramCell n) v).vbank = s.vbank :=
  vbank_congr rfl (read_write_other _ _ (by unfold State.vramCell; omega))

/-- A byte stored in work RAM leaves the bank select alone, and with it every address's cell. -/
theorem wramCell_store_wramCell (v : Byte) {n : Nat} (m : Nat) (h : n < 0xE000) :
    (s.store (s.wramCell n) v).wramCell m = s.wramCell m :=
  have hbank : (s.store (s.wramCell n) v).wbank = s.wbank :=
    wbank_congr rfl (read_write_other _ _ (by unfold State.wramCell; split <;> omega))
  congrArg (fun b => if m < 0xD000 then m else b * 0x10000 + m) hbank

/-- A port nobody owns reads what is stored there, whatever the overlay. -/
theorem memRead_unowned {t : State} (hc : t.cfg = s.cfg) (hwf : s.cfg.wf = true) (h1 : 0xFF00 < a.toNat)
    (h2 : a.toNat < 0xFFFF) (ho : (inRanges s.cfg.audioOwned a.toNat || inRanges s.cfg.videoOwned a.toNat) = false) :
    t.memRead a = t.mem.read a.toNat := by
  rw [← hc] at hwf ho
  exact memRead_of_cell ((backing_port hwf h1 ho).trans (if_pos h2))

/-- Settles O43: the address reaches after the write what it reached before, and the byte written is there. -/
theorem storeThenLoad : Obligations.StoreThenLoad := by
  intro s a v hm hwf hback
  rw [readsBack_iff] at hback
  have hport (h : 0xFF00 < a.toNat) :
      (inRanges s.cfg.audioOwned a.toNat || inRanges s.cfg.videoOwned a.toNat) = false :=
    ((hback.resolve_left (by omega)).resolve_left (by omega)).2.2
  suffices h : (s.memWrite a v).cfg = s.cfg → (s.memWrite a v).memRead a = v from h (memWrite_cfg s a v)
  apply memWrite_cases (P := fun t => t.cfg = s.cfg → t.memRead a = v)
  case rom | xram | gap | joypad | divider => intros; omega
  case audio => exact fun hn ha => absurd ha (Bool.eq_false_iff.1 (Bool.or_eq_false_iff.1 (hport hn.1)).1)
  case video => exact fun hn _ hv => absurd hv (Bool.eq_false_iff.1 (Bool.or_eq_false_iff.1 (hport hn.1)).2)
  case vram =>
    intro h1 h2 _
    rw [memRead_of_cell (backing_vram (s := s.store _ v) hwf h1 h2), vbank_store_vramCell v h2]
    exact read_write_same _ _ _ hm
  case wram =>
    intro h1 h2 _
    rw [memRead_of_cell (backing_wram (s := s.store _ v) hwf h1 h2),
      wramCell_store_wramCell v _ (unecho_mem_wram h1 h2).2]
    exact read_write_same _ _ _ hm
  case oam =>
    intro h1 h2 _
    rw [memRead_of_cell (backing_oam (s := s.store _ v) hwf h1 h2)]
    exact read_write_same _ _ _ hm
  case dma =>
    intro h hc
    rw [memRead_unowned hc hwf (by omega) (by omega) (hport (by omega)), dmaCopy_read_other _ _ _ (by omega), h]
    exact read_write_same _ _ _ hm
  case boot =>
    intro h hc
    rw [memRead_unowned hc hwf (by omega) (by omega) (hport (by omega)), h]
    exact read_write_same _ _ _ hm
  case hdma =>
    intro h _ hc
    rw [memRead_unowned hc hwf (by omega) (by omega) (hport (by omega)), requestHdma_read_other _ _ _ (by omega), h]
    exact read_write_same _ _ _ hm
  case plain =>
    intro hn _ _ h2 hc
    rw [memRead_unowned hc hwf hn.1 h2 (hport hn.1)]
    exact read_write_same _ _ _ hm
  case ie =>
    intro _ _ h _
    exact memRead_of_ie ((backing_port (s := { s with ie := v }) hwf (by omega) (hport (by omega))).trans
      (if_neg (by omega)))

end Sys2Proof.Machine
end

section
/-!
The frame of a store: what a `MemWrite` leaves alone, storage, IE, the overlay, the record of the outside, and what
every other address reads.
-/

namespace Sys2Proof.Machine

variable {s : State} {a x : Word}

/-! ## The parts a store leaves alone -/

/-- Every storage byte the address does not select holds what it held. -/
theorem memWrite_read_other (v : Byte) {k : Nat} (hk : s.writesCell a k = false) :
    (s.memWrite a v).mem.read k = s.mem.read k := by
  unfold State.writesCell at hk
  apply memWrite_cases (P := fun t => t.mem.read k = s.mem.read k)
  case rom | xram | gap | audio | video | ie => intros; rfl
  case vram | wram | oam =>
    intro h1 h2
    simp (disch := omega) only [if_pos, if_neg, beq_eq_false_iff_ne] at hk
    exact read_write_other _ _ hk
  case joypad | divider | boot =>
    intro h
    have hp : a.toNat = 0xFF00 ∨ a.toNat = 0xFF04 ∨ a.toNat = 0xFF50 := by omega
    simp (disch := omega) only [if_pos hp, if_neg, beq_eq_false_iff_ne] at hk
    exact read_write_other _ _ (by omega)
  case dma =>
    intro h
    simp (disch := omega) only [if_pos, if_neg, Bool.or_eq_false_iff, beq_eq_false_iff_ne, Bool.and_eq_false_iff,
      decide_eq_false_iff_not] at hk
    exact (dmaCopy_read_other _ _ _ (by omega)).trans (read_write_other _ _ hk.1)
  case hdma =>
    intro h hc
    simp (disch := omega) only [if_pos (And.intro h hc), if_neg, Bool.or_eq_false_iff, beq_eq_false_iff_ne,
      Bool.and_eq_false_iff, decide_eq_false_iff_not] at hk
    exact (requestHdma_read_other _ _ _ (by omega)).trans (read_write_other _ _ hk.1)
  case plain =>
    rintro ⟨h0, h04, h46, h50, h55⟩ ha hv h2
    simp (disch := omega) only [if_pos, if_neg, ha, hv, Bool.false_eq_true, if_false, beq_eq_false_iff_ne] at hk
    exact read_write_other _ _ hk

theorem memWrite_ie_of_ne (v : Byte) (ha : a ≠ 0xFFFF#16) : (s.memWrite a v).ie = s.ie := by
  apply memWrite_cases (P := fun t => t.ie = s.ie)
  case dma => exact fun _ => (congrArg State.ie (dmaCopy_eq_mem _ v) :)
  case hdma => exact fun _ _ => (congrArg State.ie (requestHdma_eq_mem_calls _ v) :)
  case ie => exact fun _ _ h => absurd (BitVec.eq_of_toNat_eq h) ha
  all_goals intros; rfl

theorem memWrite_bootOn_of_ne (v : Byte) (ha : a ≠ 0xFF50#16) : (s.memWrite a v).bootOn = s.bootOn := by
  apply memWrite_cases (P := fun t => t.bootOn = s.bootOn)
  case dma => exact fun _ => dmaCopy_bootOn _ v
  case hdma => exact fun _ _ => requestHdma_bootOn _ v
  case boot => exact fun h => absurd (BitVec.eq_of_toNat_eq h) ha
  all_goals intros; rfl

theorem callsOut_iff : s.callsOut a = true ↔
    a.toNat < 0x8000 ∨ (0xA000 ≤ a.toNat ∧ a.toNat < 0xC000) ∨
      (0xFF00 < a.toNat ∧ a.toNat ≠ 0xFF04 ∧ a.toNat ≠ 0xFF46 ∧ a.toNat ≠ 0xFF50 ∧
        ((a.toNat = 0xFF55 ∧ s.cfg.cgbMode = true) ∨ inRanges s.cfg.audioOwned a.toNat = true ∨
          inRanges s.cfg.videoOwned a.toNat = true)) := by
  simp [State.callsOut, or_assoc, and_assoc]

/-- A store that calls nobody leaves the record of the outside alone, but for the answer the joypad port forgets. -/
theorem memWrite_outside (v : Byte) (h : s.callsOut a = false) :
    (s.memWrite a v).calls = s.calls ∧
      (s.memWrite a v).known = if a.toNat = 0xFF00 then s.forgetInput.known else s.known := by
  have hn : ¬ _ := fun hc => Bool.false_ne_true (h.symm.trans (callsOut_iff.2 hc))
  apply memWrite_cases (P := fun t => t.calls = s.calls ∧
    t.known = if a.toNat = 0xFF00 then s.forgetInput.known else s.known)
  case rom => exact fun h0 => absurd (.inl h0) hn
  case xram => exact fun h1 h2 => absurd (.inr (.inl ⟨h1, h2⟩)) hn
  case audio =>
    exact fun ⟨h0, h04, h46, h50, _⟩ ha => absurd (.inr (.inr ⟨h0, h04, h46, h50, .inr (.inl ha)⟩)) hn
  case video =>
    exact fun ⟨h0, h04, h46, h50, _⟩ _ hv => absurd (.inr (.inr ⟨h0, h04, h46, h50, .inr (.inr hv)⟩)) hn
  case hdma =>
    exact fun h0 hc => absurd (.inr (.inr ⟨by omega, by omega, by omega, by omega, .inl ⟨h0, hc⟩⟩)) hn
  case joypad => exact fun h0 => ⟨rfl, (if_pos h0).symm⟩
  case dma =>
    intro h0
    rw [if_neg (by omega), dmaCopy_eq_mem]
    exact ⟨rfl, rfl⟩
  case plain => exact fun hp _ _ _ => ⟨rfl, (if_neg (Nat.ne_of_gt hp.1)).symm⟩
  all_goals
    intros
    exact ⟨rfl, (if_neg (by omega)).symm⟩

/-- An answer from outside stays what it was over a store that calls nobody; where the answer is the input device's
the store must not write the joypad port either. -/
theorem memWrite_answer (v : Byte) (q : Query) (h : s.callsOut a = false)
    (hj : a.toNat = 0xFF00 → x.toNat ≠ 0xFF00) : (s.memWrite a v).answer x q = s.answer x q := by
  obtain ⟨hcalls, hknown⟩ := memWrite_outside v h
  have hfind : cellsFind (s.memWrite a v).known x.toNat = cellsFind s.known x.toNat := by
    rw [hknown]
    split
    next ha => rw [forgetInput_find, if_neg (hj ha)]
    next => rfl
  rw [State.answer, State.answer, hfind, hcalls, memWrite_tick]

/-! ## What another address reaches -/

/-- The overlay gives no byte at an address, or the address reaches the byte it gives. -/
theorem bootHidden_or_boot (s : State) (x : Word) : s.bootHidden x ∨ ∃ w, s.backing x = .boot w := by
  cases hon : s.bootOn with
  | false => exact .inl (.inl hon)
  | true =>
    cases hv : bootRom s.cfg x.toNat with
    | none => exact .inl (.inr hv)
    | some w => exact .inr ⟨w, backing_boot hon hv⟩

theorem bootHidden_iff : s.bootHidden x ↔ (if s.bootOn then bootRom s.cfg x.toNat else none) = none := by
  cases h : s.bootOn <;> simp [State.bootHidden, h]

/-- The joypad port outside the overlay, whatever the parameters. -/
theorem backing_joypad_of_bootHidden (h : s.bootHidden x) (hx : x.toNat = 0xFF00) :
    s.backing x = .ask (.input (s.io 0x00)) := by
  simp (disch := omega) only [backing_of_bootHidden h, if_pos, if_neg]

/-- A port keeps its byte over a store elsewhere. -/
theorem memWrite_read_port (v : Byte) {p : Nat} (hp : p < 0x80) (ha : a.toNat ≠ 0xFF00 + p) :
    (s.memWrite a v).mem.read (0xFF00 + p) = s.mem.read (0xFF00 + p) :=
  memWrite_read_other v (writesCell_port s a p hp ha)

/-- The video-RAM bank is moved by its select port in the color variant only (R53). -/
theorem memWrite_vbank (v : Byte) (h : s.cfg.cgbMode = true → a.toNat ≠ 0xFF4F) :
    (s.memWrite a v).vbank = s.vbank := by
  cases hc : s.cfg.cgbMode with
  | false => simp only [State.vbank, memWrite_cfg, hc, Bool.false_eq_true, if_false]
  | true => exact vbank_congr (memWrite_cfg s a v) (memWrite_read_port (p := 0x4F) v (by decide) (h hc))

/-- The work-RAM bank is moved by its select port in the color variant only (R54). -/
theorem memWrite_wbank (v : Byte) (h : s.cfg.cgbMode = true → a.toNat ≠ 0xFF70) :
    (s.memWrite a v).wbank = s.wbank := by
  cases hc : s.cfg.cgbMode with
  | false => simp only [State.wbank, memWrite_cfg, hc, Bool.false_eq_true, if_false]
  | true => exact wbank_congr (memWrite_cfg s a v) (memWrite_read_port (p := 0x70) v (by decide) (h hc))

theorem movesWindow_iff : s.movesWindow a x = true ↔
    s.cfg.cgbMode = true ∧ ((a.toNat = 0xFF4F ∧ 0x8000 ≤ unecho x.toNat ∧ unecho x.toNat < 0xA000) ∨
      (a.toNat = 0xFF70 ∧ 0xD000 ≤ unecho x.toNat ∧ unecho x.toNat < 0xE000)) := by
  simp [State.movesWindow, ← BitVec.toNat_inj, and_assoc]

/-- A store moves what `x` reaches by a bank select, by turning the overlay off, or at the joypad port only. -/
theorem memWrite_backing (v : Byte) (hwin : ¬ s.movesWindow a x = true) (hboot : a = 0xFF50#16 → s.bootHidden x)
    (hjoy : a.toNat = 0xFF00 → x.toNat = 0xFF00 → ¬ s.bootHidden x) :
    (s.memWrite a v).backing x = s.backing x := by
  rw [movesWindow_iff] at hwin
  apply backing_eq x (memWrite_cfg s a v)
  case hb =>
    by_cases ha : a = 0xFF50#16
    · have hid : (s.memWrite a v).bootHidden x := by
        rw [State.bootHidden, memWrite_cfg]
        exact (hboot ha).imp_left (overlayKept_memWrite s a v).off
      rw [bootHidden_iff.1 (hboot ha)]
      simpa only [memWrite_cfg] using bootHidden_iff.1 hid
    · rw [memWrite_bootOn_of_ne v ha]
  case hv =>
    intro h1 h2
    have hun : unecho x.toNat = x.toNat := if_neg (by omega)
    exact memWrite_vbank v fun hc ha => hwin ⟨hc, .inl ⟨ha, by omega, by omega⟩⟩
  case hw => exact fun h1 h2 => memWrite_wbank v fun hc ha => hwin ⟨hc, .inr ⟨ha, h1, h2⟩⟩
  case hj =>
    exact fun hid hx => memWrite_read_port (p := 0) v (by decide) fun ha => hjoy ha hx (bootHidden_iff.2 hid)

/-- Every other address reads as before. -/
theorem memWrite_memRead (v : Byte) (hx : s.untouchedBy a x = true) : (s.memWrite a v).memRead x = s.memRead x := by
  simp only [State.untouchedBy, Bool.and_eq_true, Bool.not_eq_true'] at hx
  obtain ⟨hwin, hreach⟩ := hx
  have hb : (s.memWrite a v).backing x = s.backing x := by
    apply memWrite_backing v (Bool.eq_false_iff.1 hwin)
    case hboot =>
      intro ha
      obtain hid | ⟨w, hw⟩ := bootHidden_or_boot s x
      · exact hid
      · simp [hw, ha] at hreach
    case hjoy =>
      intro ha hx hid
      simp [backing_joypad_of_bootHidden hid hx, ← BitVec.toNat_inj, ha, hx] at hreach
  apply memRead_eq x hb
  case hcell =>
    intro k hk
    rw [hk] at hreach
    exact memWrite_read_other v (by simpa using hreach)
  case hie =>
    intro hie
    rw [hie] at hreach
    exact memWrite_ie_of_ne v (by simpa using hreach)
  case hask =>
    intro q hq
    rw [hq] at hreach
    simp only [Bool.and_eq_true, Bool.not_eq_true', Bool.or_eq_true, bne_iff_ne, ne_eq, ← BitVec.toNat_inj] at hreach
    exact memWrite_answer v q hreach.1 fun ha => hreach.2.resolve_left (not_not_intro ha)

/-- A `MemWrite` is a store at its address only. -/
theorem memWrite_storedOnlyAt (s : State) (a : Word) (v : Byte) : s.StoredOnlyAt a (s.memWrite a v) where
  cells _ hk := memWrite_read_other v hk
  reads _ hx := memWrite_memRead v hx
  ie ha := memWrite_ie_of_ne v ha
  boot ha := memWrite_bootOn_of_ne v ha
  calls h := (memWrite_outside v h).1
  known h ha := (memWrite_outside v h).2.trans (if_neg fun e => ha (BitVec.eq_of_toNat_eq e))

/-- Settles O44: the frame clause by clause, and that registers and engine state are no part of it. -/
theorem storeFrame : Obligations.StoreFrame :=
  fun s a v => ⟨memWrite_storedOnlyAt s a v, memWrite_eq s a v⟩

end Sys2Proof.Machine
end

section
/-!
The DMA copy: what each of its 160 turns reads is what the router read before the first, so the sprite table ends as
the page.
-/

namespace Sys2Proof.Machine

variable {s t u : State} {x : Word} {k n : Nat} {v : Byte}

/-! ## What a turn of the copy reads -/

/-- The storage cells an address can reach. -/
theorem backing_cell_cases (h : s.backing x = .cell k) :
    (x.toNat < 0xA000 ∧ k = s.vramCell x.toNat) ∨
      (0xC000 ≤ x.toNat ∧ x.toNat < 0xFE00 ∧ k = s.wramCell (unecho x.toNat)) ∨
      (0xFE00 ≤ x.toNat ∧ k = x.toNat) := by
  obtain hid | ⟨w, hw⟩ := bootHidden_or_boot s x
  · rw [backing_of_bootHidden hid] at h
    by_cases h0 : x.toNat < 0x8000
    · cases (if_pos h0).symm.trans h
    rw [if_neg h0] at h
    by_cases h1 : x.toNat < 0xA000
    · cases (if_pos h1).symm.trans h
      exact .inl ⟨h1, rfl⟩
    rw [if_neg h1] at h
    by_cases h2 : x.toNat < 0xC000
    · cases (if_pos h2).symm.trans h
    rw [if_neg h2] at h
    by_cases h3 : x.toNat < 0xFE00
    · cases (if_pos h3).symm.trans h
      exact .inr (.inl ⟨by omega, h3, rfl⟩)
    rw [if_neg h3] at h
    refine .inr (.inr ⟨by omega, ?_⟩)
    grind
  · simp [hw] at h

/-- The sprite table's cells are reached by their own addresses only (R108). -/
theorem toNat_eq_of_backing_oam (h : s.backing x = .cell k) (h1 : 0xFE00 ≤ k) (h2 : k < 0xFEA0) : x.toNat = k := by
  obtain ⟨hlt, rfl⟩ | ⟨hge, hlt, rfl⟩ | ⟨-, rfl⟩ := backing_cell_cases h
  case inl =>
    unfold State.vramCell at h1 h2
    omega
  case inr.inl =>
    have hbank := wbank_cases s
    have hun := unecho_mem_wram hge hlt
    have hcell : s.wramCell (unecho x.toNat) < 0xE000 ∨ 0x10000 ≤ s.wramCell (unecho x.toNat) := by
      unfold State.wramCell
      split <;> omega
    omega
  case inr.inr => rfl

/-- The source address of turn `i` of a copy from page `v` (R114). -/
def dmaSource (v : Byte) (i : Nat) : Word := mk16 v 0#8 + BitVec.ofNat 16 i

theorem dmaSource_eq (v : Byte) (i : Nat) : dmaSource v i = BitVec.ofNat 16 (0x100 * v.toNat + i) := by
  apply BitVec.eq_of_toNat_eq
  rw [dmaSource, BitVec.toNat_add, mk16_toNat]
  simp

/-- After `n` turns of a copy from page `v` that began in `u`, at `t`: the first `n` bytes of the sprite table are
what the router read of the page in `u`, and all else is as in `u`. -/
structure DmaTurns (u : State) (v : Byte) (n : Nat) (t : State) : Prop where
  rest : t = { u with mem := t.mem }
  canonical : t.mem.wf = true
  copied : ∀ i, i < n → t.mem.read (0xFE00 + i) = u.memRead (dmaSource v i)
  kept : ∀ k, k < 0xFE00 ∨ 0xFE00 + n ≤ k → t.mem.read k = u.mem.read k

/-- A byte of the page reads in turn `n` as it did before the copy, even where the page is the sprite table itself:
that page's byte `n` is not overwritten before turn `n`. -/
theorem DmaTurns.memRead_dmaSource (h : DmaTurns u v n t) (hn : n < 160) :
    t.memRead (dmaSource v n) = u.memRead (dmaSource v n) := by
  have hkept (k : Nat) (hk : k < 0xFE00 ∨ 0xFEA0 ≤ k) : t.mem.read k = u.mem.read k := h.kept k (by omega)
  have hcfg : t.cfg = u.cfg := (congrArg State.cfg h.rest :)
  have hboot : t.bootOn = u.bootOn := (congrArg State.bootOn h.rest :)
  apply memRead_eq
  case hb =>
    refine backing_eq _ hcfg (by rw [hboot]) (fun _ _ => vbank_congr hcfg (hkept _ (by decide)))
      (fun _ _ => wbank_congr hcfg (hkept _ (by decide))) (fun _ _ => hkept _ (by decide))
  case hcell =>
    intro k hk
    by_cases hoam : 0xFE00 ≤ k ∧ k < 0xFEA0
    · have hx := toNat_eq_of_backing_oam hk hoam.1 hoam.2
      rw [dmaSource_eq, BitVec.toNat_ofNat] at hx
      exact h.kept k (by omega)
    · exact hkept k (by omega)
  case hie => exact fun _ => (congrArg State.ie h.rest :)
  case hask =>
    intro q _
    rw [h.rest]
    rfl

theorem DmaTurns.succ (h : DmaTurns u v n t) (hn : n < 160) : DmaTurns u v (n + 1) (State.dmaByte v t n) where
  rest := congrArg (fun w : State => { w with mem := (State.dmaByte v t n).mem }) h.rest
  canonical := store_wf _ _ _ h.canonical
  copied i hi := by
    rcases Nat.lt_succ_iff_lt_or_eq.1 hi with hlt | rfl
    · exact (read_write_other _ _ (by omega)).trans (h.copied i hlt)
    · exact (read_write_same _ _ _ h.canonical).trans (h.memRead_dmaSource hn)
  kept k hk := (read_write_other _ _ (by omega)).trans (h.kept k (by omega))

theorem dmaTurns_foldl (hm : u.mem.wf = true) (v : Byte) (n : Nat) (hn : n ≤ 160) :
    DmaTurns u v n ((List.range n).foldl (State.dmaByte v) u) := by
  induction n with
  | zero => exact ⟨rfl, hm, nofun, fun _ _ => rfl⟩
  | succ n ih =>
    rw [List.range_succ, List.foldl_append]
    exact (ih (by omega)).succ (by omega)

/-- The DMA copy from page `v` (R114). -/
theorem dmaTurns_dmaCopy (hm : u.mem.wf = true) (v : Byte) : DmaTurns u v 160 (u.dmaCopy v) :=
  dmaTurns_foldl hm v 160 (Nat.le_refl 160)

/-- Settles O45: the port byte is stored first, then all 160 turns of the copy are made. -/
theorem dmaCopiesThePage : Obligations.DmaCopiesThePage := by
  intro s v hm
  have hw : s.memWrite 0xFF46#16 v = (s.setIo 0x46 v).dmaCopy v := memWrite_dma v rfl
  have h : DmaTurns (s.setIo 0x46 v) v 160 (s.memWrite 0xFF46#16 v) := hw ▸ dmaTurns_dmaCopy (setIo_wf s 0x46 v hm) v
  refine ⟨fun i hi => ?page, ?port, fun k hk hout => ?other, h.rest⟩
  case page =>
    rw [← dmaSource_eq]
    exact h.copied i hi
  case port => exact (h.kept 0xFF46 (by decide)).trans (read_write_same _ _ _ hm)
  case other => exact (h.kept k (by omega)).trans (read_write_other _ _ hk)

end Sys2Proof.Machine
end

section
/-!
The decoder and the encoder are inverse to each other. Both are compared with `decodeFetched`, the instruction that
three bytes hold: it is encoded back, checked once for every first byte, and it reaches every instruction, checked once
for every constructor.
-/

namespace Sys2Proof

open Machine

variable {b0 b1 b2 : Byte} {bs rest : List Byte} {i : Instr}

/-! ## The prefixed page -/

/-- The shape a second byte names by its fields (R153, R156, R161, R164). -/
def secondPageForm (b : Byte) : Form :=
  match b.getLsbD 7, b.getLsbD 6 with
  | false, false => .rot (rotOpOf (fieldY b)) (targetOf (fieldZ b))
  | false, true => .bit (fieldY b) (targetOf (fieldZ b))
  | true, false => .res (fieldY b) (targetOf (fieldZ b))
  | true, true => .set (fieldY b) (targetOf (fieldZ b))

theorem form_secondPageInstr (b : Byte) : (secondPageInstr b).form = secondPageForm b := by
  revert b; decide

theorem opcode_secondPageInstr (b : Byte) : (secondPageInstr b).opcode = 0xCB00 + b.toNat := by
  revert b; decide

theorem encode_secondPageInstr (b : Byte) : encode (secondPageInstr b) = [0xCB#8, b] := by
  revert b; decide

/-- All 256 codes of the second page have a handler (R152). -/
theorem wellFormed_secondPageInstr (b : Byte) : (secondPageInstr b).wellFormed = true := by
  revert b; decide

/-- The handler a second byte dispatches to is what an instruction of its shape does (R365). -/
theorem run_secondPageForm (b : Byte) (op : Nat) (s : State) :
    run (secondPageForm b) op s = done op (secondPageRun b s) := by
  unfold secondPageForm secondPageRun
  cases b.getLsbD 7 <;> cases b.getLsbD 6 <;> rfl

/-- Settles O37: the grid of the second page holds at every byte an instruction of the shape its fields name. -/
theorem prefixDispatchesOnTheSecondByte : Obligations.PrefixDispatchesOnTheSecondByte := by
  intro s i
  refine ⟨wellFormed_secondPageInstr _, ?_, _, rfl⟩
  rw [exec_eq_run i, form_secondPageInstr, opcode_secondPageInstr, run_secondPageForm]
  rfl

/-! ## The bytes an entry takes -/

/-- Of two bytes, those that an instruction of this entry takes behind its first one (R151); a 16-bit immediate as
the encoder writes it (R154). -/
def Entry.operands (b1 b2 : Byte) : Entry → List Byte
  | .op _ => []
  | .imm8 _ => [b1]
  | .imm16 _ => [lo (mk16 b2 b1), hi (mk16 b2 b1)]
  | .pad _ => [b1]
  | .pageTwo => [b1]

/-- A first byte with its operands decodes, with what follows left over (R151, R155). -/
theorem decode_operands (b0 b1 b2 : Byte) (rest : List Byte) :
    decode (b0 :: ((firstPageEntry b0).operands b1 b2 ++ rest)) = .ok (decodeFetched b0 b1 b2, rest) := by
  cases h : firstPageEntry b0 <;> simp [decode, decodeFetched, Entry.operands, h]

/-- Nothing else decodes, but 0xCB alone (log 9). -/
theorem exists_operands_of_decode (h : decode bs = .ok (i, rest)) (hi : i ≠ .prefix_cb) :
    ∃ b0 b1 b2, decodeFetched b0 b1 b2 = i ∧ bs = b0 :: ((firstPageEntry b0).operands b1 b2 ++ rest) := by
  unfold decode at h
  split at h
  next => cases h
  next b0 tail =>
    split at h <;> cases h
    next he => exact ⟨b0, 0, 0, by simp [decodeFetched, Entry.operands, he]⟩
    next n he => exact ⟨b0, n, 0, by simp [decodeFetched, Entry.operands, he]⟩
    next l u he => exact ⟨b0, l, u, by simp [decodeFetched, Entry.operands, he]⟩
    next n he => exact ⟨b0, n, 0, by simp [decodeFetched, Entry.operands, he]⟩
    next n he => exact ⟨b0, n, 0, by simp [decodeFetched, Entry.operands, he]⟩
    next => exact absurd rfl hi

/-! ## What is decoded is encoded back -/

/-- By number, from the last byte down to the first: the bytes above 0xCB, 0xCB itself, those between it and STOP's
0x10, that one, and those below it. -/
theorem encode_decodeFetched_ofNat (b1 b2 : Byte) : ∀ k < 256, k ≠ 0x10 →
    encode (decodeFetched (BitVec.ofNat 8 k) b1 b2) =
      BitVec.ofNat 8 k :: (firstPageEntry (BitVec.ofNat 8 k)).operands b1 b2 := by
  iterate 52 refine Nat.forall_lt_succ_right.2 ⟨?_, fun _ => rfl⟩
  refine Nat.forall_lt_succ_right.2 ⟨?_, fun _ => encode_secondPageInstr b1⟩
  iterate 186 refine Nat.forall_lt_succ_right.2 ⟨?_, fun _ => rfl⟩
  refine Nat.forall_lt_succ_right.2 ⟨?_, fun h => absurd rfl h⟩
  iterate 16 refine Nat.forall_lt_succ_right.2 ⟨?_, fun _ => rfl⟩
  nofun

/-- Every entry of the grid of R163 is encoded as its first byte and its operands, but for STOP, whose pad byte is
free (R151). -/
theorem encode_decodeFetched (b1 b2 : Byte) (hb : b0 ≠ 0x10#8) :
    encode (decodeFetched b0 b1 b2) = b0 :: (firstPageEntry b0).operands b1 b2 := by
  have h := encode_decodeFetched_ofNat b1 b2 b0.toNat b0.isLt fun h => hb (BitVec.eq_of_toNat_eq h)
  rwa [BitVec.ofNat_toNat, BitVec.setWidth_eq] at h

theorem decodeFetched_eq_stop_iff : decodeFetched b0 b1 b2 = .stop ↔ b0 = 0x10#8 := by
  refine ⟨fun h => Decidable.byContradiction fun hb => ?_, fun h => h ▸ rfl⟩
  have he := encode_decodeFetched b1 b2 hb
  rw [h] at he
  exact hb (List.cons.inj he).1.symm

/-! ## Every instruction is decoded -/

theorem exists_decodeFetched_imm8 {f : Byte → Instr} (h : firstPageEntry (BitVec.ofNat 8 (f 0).opcode) = .imm8 f)
    (n : Byte) : ∃ b0 b1 b2, decodeFetched b0 b1 b2 = f n :=
  ⟨_, n, 0, by rw [decodeFetched, h]⟩

theorem exists_decodeFetched_imm16 {f : Word → Instr} (h : firstPageEntry (BitVec.ofNat 8 (f 0).opcode) = .imm16 f)
    (w : Word) : ∃ b0 b1 b2, decodeFetched b0 b1 b2 = f w :=
  ⟨_, lo w, hi w, by rw [decodeFetched, h]; exact congrArg f (mk16_hi_lo w)⟩

/-- An instruction without a 16-bit immediate is found behind the first two bytes of its encoding. -/
theorem exists_decodeFetched_of_encode (h : decodeFetched ((encode i).getD 0 0) ((encode i).getD 1 0) 0 = i) :
    ∃ b0 b1 b2, decodeFetched b0 b1 b2 = i :=
  ⟨_, _, _, h⟩

/-- The two grids hold every row of the table but 0xCB's own (R152, R163, R164). -/
theorem exists_decodeFetched_eq (hi : i ≠ .prefix_cb) : ∃ b0 b1 b2, decodeFetched b0 b1 b2 = i := by
  cases i with
  | prefix_cb => exact absurd rfl hi
  | ld_b_d8 n | ld_c_d8 n | ld_d_d8 n | ld_e_d8 n | ld_h_d8 n | ld_l_d8 n | ld_mhl_d8 n | ld_a_d8 n | add_a_d8 n
  | adc_a_d8 n | sub_d8 n | sbc_a_d8 n | and_d8 n | xor_d8 n | or_d8 n | cp_d8 n | ldh_ma8_a n | ldh_a_ma8 n
  | jr_e8 n | jr_nz_e8 n | jr_z_e8 n | jr_nc_e8 n | jr_c_e8 n | add_sp_e8 n | ld_hl_sp_e8 n =>
    exact exists_decodeFetched_imm8 rfl n
  | ld_bc_d16 w | ld_de_d16 w | ld_hl_d16 w | ld_sp_d16 w | ld_ma16_sp w | ld_ma16_a w | ld_a_ma16 w | jp_a16 w
  | jp_nz_a16 w | jp_z_a16 w | jp_nc_a16 w | jp_c_a16 w | call_a16 w | call_nz_a16 w | call_z_a16 w | call_nc_a16 w
  | call_c_a16 w =>
    exact exists_decodeFetched_imm16 rfl w
  | _ => exact exists_decodeFetched_of_encode rfl

/-! ## The round trips -/

theorem ne_prefix_of_wellFormed (h : i.wellFormed = true) : i ≠ .prefix_cb := by
  rintro rfl
  cases h

/-- Settles O1: the instruction is decoded from some bytes, and those are its encoding; of STOP the encoder's own. -/
theorem decodeInvertsEncode : Obligations.DecodeInvertsEncode := by
  intro i rest hwf
  by_cases hstop : i = .stop
  · subst hstop
    exact decode_operands 0x10#8 0 0 rest
  · obtain ⟨b0, b1, b2, rfl⟩ := exists_decodeFetched_eq (ne_prefix_of_wellFormed hwf)
    rw [encode_decodeFetched b1 b2 (mt decodeFetched_eq_stop_iff.2 hstop)]
    exact decode_operands b0 b1 b2 rest

/-- Settles O2: what decodes is a first byte and its operands, and those encode it; of STOP the pad byte is left. -/
theorem encodeInvertsDecode : Obligations.EncodeInvertsDecode := by
  intro bs i rest h hwf
  obtain ⟨b0, b1, b2, rfl, rfl⟩ := exists_operands_of_decode h (ne_prefix_of_wellFormed hwf)
  constructor
  · intro hstop
    rw [encode_decodeFetched b1 b2 (mt decodeFetched_eq_stop_iff.2 hstop)]
    rfl
  · intro hstop
    obtain rfl := decodeFetched_eq_stop_iff.1 hstop
    exact ⟨b1, rfl⟩

/-- Settles O3: each word is decoded by the definition. -/
theorem specWordsDecode : Obligations.SpecWordsDecode :=
  ⟨rfl, rfl, rfl, rfl, rfl, rfl, rfl, rfl, rfl, rfl, rfl, rfl, rfl, rfl, rfl⟩

/-! ## The codes without a handler -/

/-- The codes of R165. -/
def illegalCodes : List Byte :=
  [0xD3#8, 0xDB#8, 0xDD#8, 0xE3#8, 0xE4#8, 0xEB#8, 0xEC#8, 0xED#8, 0xF4#8, 0xFC#8, 0xFD#8]

theorem encode_of_isIllegal (h : i.isIllegal = true) : ∃ c ∈ illegalCodes, encode i = [c] := by
  unfold Instr.isIllegal at h
  split at h
  case h_12 => cases h
  all_goals exact ⟨_, by decide, rfl⟩

/-- Settles O4: an instruction without a handler is encoded by one of the eleven codes, so what was decoded to it
began with that code. -/
theorem elevenOpcodesHaveNoHandler : Obligations.ElevenOpcodesHaveNoHandler := by
  refine ⟨fun b0 b1 b2 => ⟨fun h => ?_, fun h => ?_⟩, fun b1 _ => wellFormed_secondPageInstr b1⟩
  · have hb : b0 ≠ 0x10#8 := by
      rintro rfl
      cases h
    obtain ⟨c, hc, he⟩ := encode_of_isIllegal h
    rw [encode_decodeFetched b1 b2 hb] at he
    exact (List.cons.inj he).1 ▸ hc
  · simp only [List.mem_cons, List.not_mem_nil, or_false] at h
    rcases h with rfl | rfl | rfl | rfl | rfl | rfl | rfl | rfl | rfl | rfl | rfl <;> rfl

end Sys2Proof
end

section
/-!
The 8-bit loads. Each of them ends by advancing PC and adding its cost, so its next state is the one record update of
its statement; a store differs from the router's own by CPU registers only, which no read depends on, so its frame is
the router's. The cost of an instruction with an operand is looked up after `dsimp only [Form.opcode]`: the opcode has
to be a number without the operand before the table evaluates.
-/

namespace Sys2Proof.Machine

variable {i : Instr} {s t u : State} {a : Word}

/-! ## The end of a handler: PC advanced, the cost added -/

/-- An instruction whose handler completes leaves the handler's state with the cost added. -/
theorem exec_of_done {x : Form} (h : i.form = x) (hrun : run x i.opcode s = done i.opcode u)
    (ht : u.spend i.opcode false = t) : exec i s = .next t := by
  rw [exec_of_form h, hrun, ← ht]
  rfl

theorem spend_advance_setReg (s : State) (r : Reg8) (v : Byte) (n op : Nat) :
    ((s.setReg r v).advance n).spend op false =
      { s with pc := s.pc + BitVec.ofNat 16 n, elapsed := s.elapsed + cyclesOf s.cfg op false }.setReg r v := by
  cases r <;> rfl

theorem spend_advance_memWrite (s : State) (a : Word) (v : Byte) (n op : Nat) :
    ((s.memWrite a v).advance n).spend op false =
      { s.memorySide (s.memWrite a v) with
        pc := s.pc + BitVec.ofNat 16 n, elapsed := s.elapsed + cyclesOf s.cfg op false } := by
  rw [memWrite_eq]
  rfl

/-! ## HL after an access at a place -/

@[simp] theorem setHl_self (s : State) : s.setHl s.hl = s := by
  simp [State.setHl, State.hl]

/-- HL after an access at a place that began with HL = `w` (R215 to R218). -/
def stepHl (w : Word) : Place → Word
  | .hlInc => w + 1
  | .hlDec => w - 1
  | .bc | .de | .abs _ | .high _ | .highC => w

/-- An access at a place changes HL only, if anything. -/
theorem placeStep_eq_setHl (s : State) (p : Place) : s.placeStep p = s.setHl (stepHl s.hl p) := by
  cases p
  case hlInc | hlDec => rfl
  all_goals exact (setHl_self s).symm

/-! ## The frame of a store with register writes after it -/

/-- A read depends on no CPU register. -/
theorem State.CpuOnly.memRead (h : u.CpuOnly t) (x : Word) : t.memRead x = u.memRead x :=
  (congrArg (State.memRead · x) h.rest :)

/-- Writes of CPU registers are no part of a store's frame. -/
theorem State.StoredOnlyAt.cpuOnly (h : s.StoredOnlyAt a u) (hc : u.CpuOnly t) : s.StoredOnlyAt a t := by
  obtain ⟨-, -, -, -, -, -, -, -, hboot, hmem, -, hknown⟩ := hc.fields
  exact {
    cells := fun k hk => by rw [hmem, h.cells k hk]
    reads := fun x hx => (hc.memRead x).trans (h.reads x hx)
    ie := fun ha => (congrArg State.ie hc.rest :).trans (h.ie ha)
    boot := fun ha => hboot.trans (h.boot ha)
    calls := fun ho => (congrArg State.calls hc.rest :).trans (h.calls ho)
    known := fun ho ha => hknown.trans (h.known ho ha) }

/-- The frame of one store in the form in which statements write the next state. -/
theorem storedOnlyAt_of_cpuOnly {v : Byte} (hc : (s.memorySide (s.memWrite a v)).CpuOnly t) : s.StoredOnlyAt a t :=
  (memWrite_storedOnlyAt s a v).cpuOnly (memWrite_eq s a v ▸ hc)

/-! ## Loads of a register and stores at HL -/

/-- Settles O7: for each shape the encoding and the cost are looked up by register, and the next state is the register
write carried past the end of the handler. -/
theorem loadRegister : Obligations.LoadRegister := by
  intro i s dst
  refine ⟨fun src h => ⟨?_, ?_, ?_⟩, fun n h => ⟨?_, ?_, ?_⟩, fun h => ⟨?_, ?_, ?_⟩⟩
  · exact (encode_of_form h).trans (by cases dst <;> cases src <;> rfl)
  · exact costs_of_form h false 4 (by cases dst <;> cases src <;> rfl)
  · exact exec_of_done h rfl (spend_advance_setReg s dst (s.getReg src) 1 i.opcode)
  · exact (encode_of_form h).trans (by cases dst <;> rfl)
  · exact costs_of_form h false 8 (by cases dst <;> dsimp only [Form.opcode] <;> rfl)
  · exact exec_of_done h rfl (spend_advance_setReg s dst n 2 i.opcode)
  · exact (encode_of_form h).trans (by cases dst <;> rfl)
  · exact costs_of_form h false 8 (by cases dst <;> rfl)
  · exact exec_of_done h rfl (spend_advance_setReg s dst (s.memRead s.hl) 1 i.opcode)

/-- Settles O8: likewise with the router's store at HL, whose frame the end of the handler keeps. -/
theorem storeAtHl : Obligations.StoreAtHl := by
  intro i s
  refine ⟨fun src h => ⟨?_, ?_, ?_, ?_⟩, fun n h => ⟨?_, ?_, ?_, ?_⟩⟩
  · exact (encode_of_form h).trans (by cases src <;> rfl)
  · exact costs_of_form h false 8 (by cases src <;> rfl)
  · exact exec_of_done h rfl (spend_advance_memWrite s s.hl (s.getReg src) 1 i.opcode)
  · exact storedOnlyAt_of_cpuOnly ⟨rfl, id⟩
  · exact encode_of_form h
  · exact costs_of_form h false 12 (by dsimp only [Form.opcode]; rfl)
  · exact exec_of_done h rfl (spend_advance_memWrite s s.hl n 2 i.opcode)
  · exact storedOnlyAt_of_cpuOnly ⟨rfl, id⟩

/-! ## The fourteen loads and stores of A -/

theorem formLength_of_form {x : Form} (h : i.form = x) : formLength x = (encode i).length :=
  congrArg List.length (encode_of_form h).symm

theorem exec_ldA {p : Place} (h : i.form = .ldA p) (s : State) :
    exec i s = .next { s with
      a := s.memRead (s.placeAddr p), h := hi (stepHl s.hl p), l := lo (stepHl s.hl p)
      pc := s.pc + BitVec.ofNat 16 (encode i).length, elapsed := s.elapsedAfter i false } := by
  refine exec_of_done h rfl ?_
  rw [ldA, formLength_of_form h, placeStep_eq_setHl]
  rfl

theorem exec_stA {p : Place} (h : i.form = .stA p) (s : State) :
    exec i s = .next { s.memorySide (s.memWrite (s.placeAddr p) s.a) with
      h := hi (stepHl s.hl p), l := lo (stepHl s.hl p)
      pc := s.pc + BitVec.ofNat 16 (encode i).length, elapsed := s.elapsedAfter i false } := by
  refine exec_of_done h rfl ?_
  rw [stA, formLength_of_form h, memWrite_eq, placeStep_eq_setHl]
  rfl

/-- Settles O9: at each place the statement's table has the model's own address, bytes and HL, so its next state is the
one of `exec_ldA`. -/
theorem loadAccumulator : Obligations.LoadAccumulator := by
  intro i s p h x
  have haddr : s.placeAddr p = x.1 := by cases p <;> simp [x, State.placeAddr, highAddr_eq]
  have hbytes : encode i = x.2.1 := (encode_of_form h).trans (by cases p <;> rfl)
  have hhl : stepHl s.hl p = x.2.2.2 := by cases p <;> rfl
  refine ⟨hbytes, costs_of_form h false _ (by cases p <;> dsimp only [Form.opcode] <;> rfl), ?_⟩
  rw [exec_ldA h, haddr, hbytes, hhl]

/-- Settles O10: likewise with `exec_stA`, and the frame is that of its one store. -/
theorem storeAccumulator : Obligations.StoreAccumulator := by
  intro i s p h x
  have haddr : s.placeAddr p = x.1 := by cases p <;> simp [x, State.placeAddr, highAddr_eq]
  have hbytes : encode i = x.2.1 := (encode_of_form h).trans (by cases p <;> rfl)
  have hhl : stepHl s.hl p = x.2.2.2 := by cases p <;> rfl
  refine ⟨hbytes, costs_of_form h false _ (by cases p <;> dsimp only [Form.opcode] <;> rfl), ?_,
    storedOnlyAt_of_cpuOnly ⟨rfl, id⟩⟩
  rw [exec_stA h, haddr, hbytes, hhl]

end Sys2Proof.Machine
end

section
/-!
The 16-bit loads and the stack. Each of them ends by advancing PC and adding its cost, as the 8-bit loads do. A word is
stored by two writes of the router, each with its own frame; in RAM the second leaves the byte of the first alone, so
what a push stores a pop reads back.
-/

namespace Sys2Proof.Machine

variable {s t : State} {a x : Word}

/-! ## One store beside another in RAM -/

theorem ramAddress_iff : ramAddress a = true ↔
    (0x8000 ≤ a.toNat ∧ a.toNat < 0xA000) ∨ (0xC000 ≤ a.toNat ∧ a.toNat < 0xFEA0) ∨
      (0xFF80 ≤ a.toNat ∧ a.toNat < 0xFFFF) := by
  simp [ramAddress, or_assoc]

/-- No port a collaborator owns lies in high RAM (R98). -/
theorem not_owned_of_highRam (hwf : s.cfg.wf = true) (h : 0xFF80 ≤ a.toNat) :
    (inRanges s.cfg.audioOwned a.toNat || inRanges s.cfg.videoOwned a.toNat) = false := by
  rw [Bool.eq_false_iff, ne_eq, Bool.or_eq_true]
  intro ho
  have hlt := (owned_port hwf ho).2.1
  omega

/-- A RAM address is read back (R125). -/
theorem readsBack_of_ramAddress (hwf : s.cfg.wf = true) (h : ramAddress a = true) : s.readsBack a = true := by
  rw [readsBack_iff]
  obtain h | h | h := ramAddress_iff.1 h
  · exact .inl h
  · exact .inr (.inl h)
  · exact .inr (.inr ⟨by omega, by omega, not_owned_of_highRam hwf h.1⟩)

theorem unecho_eq_self {n : Nat} (h : n < 0xE000 ∨ 0xFE00 ≤ n) : unecho n = n :=
  if_neg (by omega)

theorem wramCell_mod_eq (s : State) {n : Nat} (h : n < 0x10000) : s.wramCell n % 0x10000 = n := by
  unfold State.wramCell
  split <;> omega

/-- A RAM address reaches one cell, whose number modulo 0x10000 is the address without the echo, and a store there
changes that cell only. -/
theorem exists_cell_of_ramAddress (hwf : s.cfg.wf = true) (h : ramAddress a = true) :
    ∃ k, s.backing a = .cell k ∧ k % 0x10000 = unecho a.toNat ∧ ∀ j, s.writesCell a j = (j == k) := by
  rcases ramAddress_iff.1 h with ⟨h1, h2⟩ | ⟨h1, h2⟩ | ⟨h1, h2⟩
  · refine ⟨_, backing_vram hwf h1 h2, ?_, fun j => ?_⟩
    · rw [unecho_eq_self (by omega)]
      omega
    · simp (disch := omega) only [State.writesCell, State.vramCell, if_pos, if_neg]
  · by_cases h3 : a.toNat < 0xFE00
    · refine ⟨_, backing_wram hwf h1 h3, wramCell_mod_eq s ?_, fun j => ?_⟩
      · have := (unecho_mem_wram h1 h3).2
        omega
      · simp (disch := omega) only [State.writesCell, if_pos, if_neg]
    · refine ⟨_, backing_oam hwf (by omega) h2, ?_, fun j => ?_⟩
      · rw [unecho_eq_self (by omega)]
        omega
      · simp (disch := omega) only [State.writesCell, if_pos, if_neg]
  · have ho := not_owned_of_highRam hwf h1
    obtain ⟨haudio, hvideo⟩ := Bool.or_eq_false_iff.1 ho
    refine ⟨_, (backing_port hwf (by omega) ho).trans (if_pos h2), ?_, fun j => ?_⟩
    · rw [unecho_eq_self (by omega)]
      omega
    · simp (disch := omega) only [State.writesCell, if_pos, if_neg, haudio, hvideo, Bool.false_eq_true, if_false]

/-- A store in RAM leaves what a read elsewhere in RAM gives, two addresses being the same place where one is the
echo of the other. -/
theorem untouchedBy_of_ramAddress (hwf : s.cfg.wf = true) (ha : ramAddress a = true) (hx : ramAddress x = true)
    (hne : unecho a.toNat ≠ unecho x.toNat) : s.untouchedBy a x = true := by
  obtain ⟨j, -, hj, hwrites⟩ := exists_cell_of_ramAddress hwf ha
  obtain ⟨k, hk, hxk, -⟩ := exists_cell_of_ramAddress hwf hx
  have hwin : s.movesWindow a x = false := by
    rw [Bool.eq_false_iff, ne_eq, movesWindow_iff]
    have := ramAddress_iff.1 ha
    omega
  have hjk : k ≠ j := by
    rintro rfl
    exact hne (hj.symm.trans hxk)
  simp [State.untouchedBy, hwin, hk, hwrites, hjk]

/-- The two bytes a word at `x` occupies are two places, the echo included. -/
theorem unecho_succ_ne {n : Nat} : unecho n ≠ unecho (n + 1) := by
  unfold unecho
  split <;> split <;> omega

/-- Settles O16: of the two bytes a push stores in RAM the low one is read back, and so is the high one, which the store
of the low one leaves alone. -/
theorem popReturnsWhatPushStored : Obligations.PopReturnsWhatPushStored := by
  intro s w hm hwf hhigh hlow
  let u := s.memWrite (s.sp - 1) (hi w)
  have huwf : u.cfg.wf = true := by rw [memWrite_cfg]; exact hwf
  have hsub : s.sp - 2 + 1 = s.sp - 1 := by bv_omega
  have hnat : (s.sp - 1).toNat = (s.sp - 2).toNat + 1 := by
    have := ramAddress_iff.1 hhigh
    have := ramAddress_iff.1 hlow
    bv_omega
  have hreadLow : (u.memWrite (s.sp - 2) (lo w)).memRead (s.sp - 2) = lo w :=
    storeThenLoad u _ _ (memWrite_wf _ _ _ hm) huwf (readsBack_of_ramAddress huwf hlow)
  have hreadHigh : (u.memWrite (s.sp - 2) (lo w)).memRead (s.sp - 1) = hi w :=
    calc (u.memWrite (s.sp - 2) (lo w)).memRead (s.sp - 1) = u.memRead (s.sp - 1) :=
          memWrite_memRead _ (untouchedBy_of_ramAddress huwf hlow hhigh (hnat ▸ unecho_succ_ne))
      _ = hi w := storeThenLoad s _ _ hm hwf (readsBack_of_ramAddress hwf hhigh)
  constructor
  · calc (s.push16 w).popValue
        = mk16 ((u.memWrite (s.sp - 2) (lo w)).memRead (s.sp - 2 + 1))
            ((u.memWrite (s.sp - 2) (lo w)).memRead (s.sp - 2)) := rfl
      _ = w := by rw [hsub, hreadHigh, hreadLow, mk16_hi_lo]
  · rw [dropWord_sp, push16_sp, BitVec.sub_add_cancel]

/-! ## Loads of a pair -/

theorem spend_advance_setPair (s : State) (p : Pair) (w : Word) (n op : Nat) :
    ((s.setPair p w).advance n).spend op false =
      { s with pc := s.pc + BitVec.ofNat 16 n, elapsed := s.elapsed + cyclesOf s.cfg op false }.setPair p w := by
  cases p <;> rfl

/-- Settles O11: the encoding and the cost are looked up by pair, and the next state is the write of the pair carried
past the end of the handler. -/
theorem loadPair : Obligations.LoadPair := by
  intro i s
  refine ⟨fun p w h => ⟨?_, ?_, ?_⟩, fun h => ⟨?_, ?_, ?_⟩⟩
  · exact (encode_of_form h).trans (by cases p <;> rfl)
  · exact costs_of_form h false 12 (by cases p <;> dsimp only [Form.opcode] <;> rfl)
  · exact exec_of_done h rfl (spend_advance_setPair s p w 3 i.opcode)
  · exact encode_of_form h
  · exact costs_of_form h false 8 rfl
  · exact exec_of_done h rfl rfl

/-! ## Stores of a word -/

/-- The frame of the second of two stores, in the form in which statements write the next state. -/
theorem storedOnlyAt_of_cpuOnly_second {v v' : Byte}
    (hc : (s.memorySide ((s.memWrite a v).memWrite x v')).CpuOnly t) : (s.memWrite a v).StoredOnlyAt x t :=
  storedOnlyAt_of_cpuOnly (memorySide_trans s _ _ (memWrite_eq s a v) ▸ hc)

theorem spend_ldAbsSp (s : State) (w : Word) (op : Nat) :
    (ldAbsSp w s).spend op false =
      { s.memorySide ((s.memWrite w (lo s.sp)).memWrite (w + 1) (hi s.sp)) with
        pc := s.pc + 3, elapsed := s.elapsed + cyclesOf s.cfg op false } := by
  rw [ldAbsSp, memWrite16_eq]
  rfl

theorem spend_pushPair (s : State) (p : StackPair) (op : Nat) :
    (pushPair p s).spend op false =
      { s.memorySide ((s.memWrite (s.sp - 1) (hi (s.getStackPair p))).memWrite (s.sp - 2) (lo (s.getStackPair p))) with
        sp := s.sp - 2, pc := s.pc + 1, elapsed := s.elapsed + cyclesOf s.cfg op false } := by
  rw [pushPair, push16_eq]
  rfl

/-- Settles O12: the two stores are the router's, and the rest of the handler writes CPU registers only. -/
theorem storeStackPointer : Obligations.StoreStackPointer := by
  intro i s w h u t
  refine ⟨encode_of_form h, costs_of_form h false 20 (by dsimp only [Form.opcode]; rfl), ?_,
    memWrite_storedOnlyAt s w (lo s.sp), storedOnlyAt_of_cpuOnly_second ⟨rfl, id⟩⟩
  exact exec_of_done h rfl (spend_ldAbsSp s w i.opcode)

/-- Settles O14: likewise with SP reduced; the low byte of AF is F. -/
theorem pushStoresHighByteFirst : Obligations.PushStoresHighByteFirst := by
  intro i s p h w u t
  have hw : s.getStackPair p = w := by cases p <;> rfl
  refine ⟨(encode_of_form h).trans (by cases p <;> rfl), costs_of_form h false 16 (by cases p <;> rfl), ?_,
    memWrite_storedOnlyAt s (s.sp - 1) (hi w), storedOnlyAt_of_cpuOnly_second ⟨rfl, id⟩, ?_⟩
  · have hspend := spend_pushPair s p i.opcode
    rw [hw] at hspend
    exact exec_of_done h rfl hspend
  · rintro rfl hf
    exact (congrArg (· &&& 0x0F#8) (lo_mk16 s.a s.f)).trans hf

/-! ## SP plus a displacement -/

/-- The low nibble of a word in numbers. -/
theorem and_0x000F_toNat (w : Word) : (w &&& 0x000F#16).toNat = w.toNat % 0x10 :=
  (BitVec.toNat_and _ _).trans (Nat.and_two_pow_sub_one_eq_mod w.toNat 4)

/-- The low byte of a word in numbers. -/
theorem and_0x00FF_toNat (w : Word) : (w &&& 0x00FF#16).toNat = w.toNat % 0x100 :=
  (BitVec.toNat_and _ _).trans (Nat.and_two_pow_sub_one_eq_mod w.toNat 8)

/-- The low nibble of a byte in numbers. -/
theorem and_0x0F_toNat (v : Byte) : (v &&& 0x0F#8).toNat = v.toNat % 0x10 :=
  (BitVec.toNat_and _ _).trans (Nat.and_two_pow_sub_one_eq_mod v.toNat 4)

/-- The sum and the flags of `SP + e8` in numbers (R235, R294). -/
theorem addSp16_eq (w : Word) (e : Byte) : addSp16 w e =
    (BitVec.ofInt 16 ((w.toNat : Int) + e.toInt), ⟨false, false, decide (0x0F < w.toNat % 0x10 + e.toNat % 0x10),
      decide (0xFF < w.toNat % 0x100 + e.toNat)⟩) := by
  rw [addSp16, add_sext16, and_0x000F_toNat, and_0x0F_toNat, and_0x00FF_toNat]

/-- Settles O13: both handlers write the sum and the flags of `addSp16`. -/
theorem stackPointerPlusDisplacement : Obligations.StackPointerPlusDisplacement := by
  intro i s e sum x
  have hsum : addSp16 s.sp e = (sum, x) := addSp16_eq s.sp e
  refine ⟨fun h => ⟨encode_of_form h, ?_, ?_⟩, fun h => ⟨encode_of_form h, ?_, ?_⟩⟩
  · exact costs_of_form h false 12 (by dsimp only [Form.opcode]; rfl)
  · refine exec_of_done h rfl ?_
    rw [ldHlSp, hsum]
    rfl
  · exact costs_of_form h false 16 (by dsimp only [Form.opcode]; rfl)
  · refine exec_of_done h rfl ?_
    rw [addSp, hsum]
    rfl

/-! ## Loads from the stack -/

/-- Settles O15: the word popped is the byte at SP + 1 above the byte at SP, and each pair takes its halves. -/
theorem popLoadsLowByteFirst : Obligations.PopLoadsLowByteFirst := by
  intro i s p hform l h t
  refine ⟨(encode_of_form hform).trans (by cases p <;> rfl), costs_of_form hform false 12 (by cases p <;> rfl),
    exec_of_done hform rfl ?_⟩
  have hpop : s.popValue = mk16 h l := rfl
  rw [popPair, hpop]
  cases p <;> rw [State.setStackPair, hi_mk16, lo_mk16] <;> rfl

end Sys2Proof.Machine
end

section
/-!
The 8-bit arithmetic and logic. The handlers compute by bits, the statements in numbers: for each shared computation
one equation gives its result and flags in the statement's terms, and the next state is the handler's own with that
equation put in.
-/

namespace Sys2Proof.Machine

variable {i : Instr} {s : State} {o : AluOp} {x : Source}

/-! ## The ALU operations on A -/

/-- The bytes and the default cost of an ALU operation on A (R160, R166). -/
def aluEncoding (o : AluOp) : Source → List Byte × Nat
  | .reg r => ([BitVec.ofNat 8 (0x80 + 8 * o.code + r.code)], 4)
  | .mem => ([BitVec.ofNat 8 (0x86 + 8 * o.code)], 8)
  | .imm n => ([BitVec.ofNat 8 (0xC6 + 8 * o.code), n], 8)

theorem encode_alu (h : i.form = .alu o x) : encode i = (aluEncoding o x).1 :=
  (encode_of_form h).trans <| by
    cases x with
    | reg r => cases o <;> cases r <;> rfl
    | mem | imm n => cases o <;> rfl

theorem costs_alu (h : i.form = .alu o x) : costs i false (aluEncoding o x).2 :=
  costs_of_form h false _ <| by
    cases x with
    | reg r => cases o <;> cases r <;> rfl
    | mem => cases o <;> rfl
    | imm n => cases o <;> dsimp only [Form.opcode] <;> rfl

/-- An ALU operation writes A, but for CP, and the flags. -/
theorem exec_alu (h : i.form = .alu o x) (s : State) :
    exec i s = .next ({ s with
      a := if o = AluOp.cp then s.a else (aluResult o s.a (s.source x) s.fc).1
      pc := s.pc + BitVec.ofNat 16 (aluEncoding o x).1.length
      elapsed := s.elapsedAfter i false }.setFlags (aluResult o s.a (s.source x) s.fc).2) := by
  refine exec_of_done h rfl ?_
  rw [alu, formLength_of_form h, encode_alu h]
  rfl

/-- The carry-in of the operation that takes one. -/
theorem toNat_carryIn (o o' : AluOp) (c : Bool) :
    (decide (o = o') && c).toNat = if o = o' ∧ c = true then 1 else 0 := by
  simp only [carry_bool, Bool.and_eq_true, decide_eq_true_eq]

/-- ADD is ADC without the carry (R250 to R255). -/
theorem aluResult_add (ho : o = .add ∨ o = .adc) (a b : Byte) (c : Bool) :
    aluResult o a b c = add8 a b (decide (o = .adc) && c) := by
  rcases ho with rfl | rfl <;> rfl

/-- SUB and CP are SBC without the carry (R256 to R261, R271 to R273). -/
theorem aluResult_sub (ho : o = .sub ∨ o = .sbc ∨ o = .cp) (a b : Byte) (c : Bool) :
    aluResult o a b c = sub8 a b (decide (o = .sbc) && c) := by
  rcases ho with rfl | rfl | rfl <;> rfl

/-- The flags of the logic operations, whose FH alone tells them apart (R248). -/
theorem aluResult_logic (ho : o = .and ∨ o = .xor ∨ o = .or) (a b : Byte) (c : Bool) :
    let res := if o = .and then a &&& b else if o = .xor then a ^^^ b else a ||| b
    aluResult o a b c = (res, ⟨decide (res = 0#8), false, decide (o = .and), false⟩) := by
  rcases ho with rfl | rfl | rfl <;> rfl

/-- Settles O17: the sum and its flags are those of `add8` in numbers. -/
theorem addToAccumulator : Obligations.AddToAccumulator := by
  intro i s o x ho h b cin sum enc
  have hb : s.source x = b := by cases x <;> rfl
  have henc : aluEncoding o x = enc := by cases x <;> rfl
  have hcin : (decide (o = .adc) && s.fc).toNat = cin := toNat_carryIn o .adc s.fc
  have hcp : o ≠ .cp := by rcases ho with rfl | rfl <;> decide
  refine ⟨by rcases ho with rfl | rfl <;> rfl, henc ▸ encode_alu h, henc ▸ costs_alu h, ?_⟩
  rw [exec_alu h, if_neg hcp, aluResult_add ho, add8_eq, hb, hcin, henc]

/-- Settles O18: the difference and its flags are those of `sub8` in numbers. -/
theorem subtractFromAccumulator : Obligations.SubtractFromAccumulator := by
  intro i s o x ho h b cin res enc
  have hb : s.source x = b := by cases x <;> rfl
  have henc : aluEncoding o x = enc := by cases x <;> rfl
  have hcin : (decide (o = .sbc) && s.fc).toNat = cin := toNat_carryIn o .sbc s.fc
  refine ⟨by rcases ho with rfl | rfl | rfl <;> rfl, henc ▸ encode_alu h, henc ▸ costs_alu h, ?_⟩
  rw [exec_alu h, aluResult_sub ho, sub8_eq, hb, hcin, henc]

/-- Settles O19: likewise with the bitwise result. -/
theorem logicOnAccumulator : Obligations.LogicOnAccumulator := by
  intro i s o x ho h b res enc
  have hb : s.source x = b := by cases x <;> rfl
  have henc : aluEncoding o x = enc := by cases x <;> rfl
  have hcp : o ≠ .cp := by rcases ho with rfl | rfl | rfl <;> decide
  refine ⟨by rcases ho with rfl | rfl | rfl <;> rfl, henc ▸ encode_alu h, henc ▸ costs_alu h, ?_⟩
  rw [exec_alu h, if_neg hcp, aluResult_logic ho, hb, henc]

/-! ## Increments and decrements -/

/-- A test of the low nibble in numbers. -/
theorem and_0x0F_beq (v n : Byte) : (v &&& 0x0F#8 == n) = decide (v.toNat % 0x10 = n.toNat) := by
  rw [← and_0x0F_toNat, Bool.eq_iff_iff, beq_iff_eq, decide_eq_true_eq, BitVec.toNat_inj]

/-- The low nibble overflows from 0xF (R249). -/
theorem inc8_eq (v : Byte) (c : Bool) :
    inc8 v c = (v + 1, ⟨decide (v + 1 = 0#8), false, decide (v.toNat % 0x10 = 0xF), c⟩) := by
  rw [inc8, and_0x0F_beq]
  rfl

/-- The low nibble underflows from 0 (R249). -/
theorem dec8_eq (v : Byte) (c : Bool) :
    dec8 v c = (v - 1, ⟨decide (v - 1 = 0#8), true, decide (v.toNat % 0x10 = 0), c⟩) := by
  rw [dec8, and_0x0F_beq]
  rfl

theorem spend_advance_setFlags_setReg (s : State) (r : Reg8) (v : Byte) (f : Flags) (n op : Nat) :
    (((s.setReg r v).setFlags f).advance n).spend op false =
      ({ s with pc := s.pc + BitVec.ofNat 16 n, elapsed := s.elapsed + cyclesOf s.cfg op false }.setReg r v).setFlags
        f := by
  cases r <;> rfl

theorem spend_advance_setFlags_memWrite (s : State) (a : Word) (v : Byte) (f : Flags) (n op : Nat) :
    (((s.memWrite a v).setFlags f).advance n).spend op false =
      { s.memorySide (s.memWrite a v) with
        pc := s.pc + BitVec.ofNat 16 n, elapsed := s.elapsed + cyclesOf s.cfg op false }.setFlags f := by
  rw [memWrite_eq]
  rfl

theorem State.StoredOnlyAt.setFlags {a : Word} {t : State} {f : Flags} (h : s.StoredOnlyAt a t) :
    s.StoredOnlyAt a (t.setFlags f) :=
  h.cpuOnly (State.CpuOnly.refl t).setFlags

/-- Settles O20: the encoding and the cost are looked up by register, and the next state is the two writes carried past
the end of the handler. -/
theorem incrementDecrementRegister : Obligations.IncrementDecrementRegister := by
  intro i s r v t
  refine ⟨fun h => ⟨?_, ?_, exec_of_done h rfl ?_⟩, fun h => ⟨?_, ?_, exec_of_done h rfl ?_⟩⟩
  · exact (encode_of_form h).trans (by cases r <;> rfl)
  · exact costs_of_form h false 4 (by cases r <;> rfl)
  · rw [incReg, inc8_eq]
    exact spend_advance_setFlags_setReg s r _ _ 1 i.opcode
  · exact (encode_of_form h).trans (by cases r <;> rfl)
  · exact costs_of_form h false 4 (by cases r <;> rfl)
  · rw [decReg, dec8_eq]
    exact spend_advance_setFlags_setReg s r _ _ 1 i.opcode

/-- Settles O21: likewise with the router's store at HL, whose frame the rest of the handler keeps. -/
theorem incrementDecrementMemory : Obligations.IncrementDecrementMemory := by
  intro i s v
  refine ⟨fun h => ⟨encode_of_form h, costs_of_form h false 12 rfl, exec_of_done h rfl ?_, ?_⟩,
    fun h => ⟨encode_of_form h, costs_of_form h false 12 rfl, exec_of_done h rfl ?_, ?_⟩⟩
  · rw [incMem, inc8_eq]
    exact spend_advance_setFlags_memWrite s s.hl _ _ 1 i.opcode
  · exact State.StoredOnlyAt.setFlags (storedOnlyAt_of_cpuOnly ⟨rfl, id⟩)
  · rw [decMem, dec8_eq]
    exact spend_advance_setFlags_memWrite s s.hl _ _ 1 i.opcode
  · exact State.StoredOnlyAt.setFlags (storedOnlyAt_of_cpuOnly ⟨rfl, id⟩)

/-! ## The decimal adjustment -/

/-- What DAA adds or takes away, by the digits it corrects (R280). -/
def daaAdjustment (high low : Bool) : Nat := (if high then 0x60 else 0) + (if low then 0x06 else 0)

/-- The two corrections share no bit. -/
theorem ofNat_daaAdjustment (high low : Bool) :
    ((if high then 0x60#8 else 0#8) ||| (if low then 0x06#8 else 0#8)) = BitVec.ofNat 8 (daaAdjustment high low) := by
  cases high <;> cases low <;> rfl

theorem add_ofNat_eq (a : Byte) (n : Nat) : a + BitVec.ofNat 8 n = BitVec.ofNat 8 (a.toNat + n) := by
  rw [BitVec.ofNat_add, BitVec.ofNat_toNat, BitVec.setWidth_eq]

theorem sub_ofNat_eq (a : Byte) (n : Nat) : a - BitVec.ofNat 8 n = BitVec.ofInt 8 ((a.toNat : Int) - n) := by
  apply BitVec.eq_of_toNat_eq
  simp only [BitVec.toNat_sub, BitVec.toNat_ofNat, BitVec.toNat_ofInt]
  omega

/-- DAA in numbers (R280): after a subtraction the flags alone say what to correct, after an addition the digits do
too. -/
theorem daa8_eq (a : Byte) (x : Flags) :
    let high := x.c || (!x.n && decide (0x99 < a.toNat))
    let low := x.h || (!x.n && decide (0x09 < a.toNat % 0x10))
    let res := if x.n then BitVec.ofInt 8 ((a.toNat : Int) - daaAdjustment high low)
      else BitVec.ofNat 8 (a.toNat + daaAdjustment high low)
    daa8 a x = (res, ⟨decide (res = 0#8), x.n, false, high⟩) := by
  obtain ⟨z, n, h, c⟩ := x
  cases n with
  | true =>
    simp only [Bool.not_true, Bool.false_and, Bool.or_false, if_true, ← sub_ofNat_eq, ← ofNat_daaAdjustment]
    rfl
  | false =>
    simp only [Bool.not_false, Bool.true_and, Bool.false_eq_true, if_false, ← add_ofNat_eq, ← ofNat_daaAdjustment,
      ← and_0x0F_toNat]
    rfl

/-- Settles O22: the adjusted A and the flags are those of `daa8` in numbers. -/
theorem decimalAdjust : Obligations.DecimalAdjust := by
  intro i s h v high low adj res
  refine ⟨encode_of_form h, costs_of_form h false 4 rfl, exec_of_done h rfl ?_⟩
  rw [daa, daa8_eq]
  rfl

/-! ## CPL, SCF and CCF -/

theorem xor_0xFF_eq (a : Byte) : a ^^^ 0xFF#8 = BitVec.ofNat 8 (255 - a.toNat) := by
  apply BitVec.eq_of_toNat_eq
  have h : a ^^^ 0xFF#8 = ~~~a := BitVec.xor_allOnes
  rw [h, BitVec.toNat_not, BitVec.toNat_ofNat]
  omega

/-- Settles O23: the handlers write what the statement says, the complement of A in numbers. -/
theorem complementAndCarryFlag : Obligations.ComplementAndCarryFlag := by
  intro i s t
  refine ⟨fun h => ?_, fun h => ?_, fun h => ?_⟩
  · refine ⟨encode_of_form h, costs_of_form h false 4 rfl, exec_of_done h rfl ?_⟩
    rw [cpl, xor_0xFF_eq]
    rfl
  · exact ⟨encode_of_form h, costs_of_form h false 4 rfl, exec_of_done h rfl rfl⟩
  · exact ⟨encode_of_form h, costs_of_form h false 4 rfl, exec_of_done h rfl rfl⟩

end Sys2Proof.Machine
end

section
/-!
The 16-bit arithmetic. INC and DEC are a write of the pair carried past the end of the handler; ADD HL is its sum and
flags in numbers, halved into H and L.
-/

namespace Sys2Proof.Machine

/-- Settles O24: the encoding and the cost are looked up by pair, and the next state is one write of the pair. -/
theorem incrementDecrementPair : Obligations.IncrementDecrementPair := by
  intro i s p v t
  have hv : s.getPair p = v := by cases p <;> rfl
  refine ⟨fun h => ⟨?_, ?_, exec_of_done h rfl ?_⟩, fun h => ⟨?_, ?_, exec_of_done h rfl ?_⟩⟩
  · exact (encode_of_form h).trans (by cases p <;> rfl)
  · exact costs_of_form h false 8 (by cases p <;> rfl)
  · rw [incPair, hv]
    exact spend_advance_setPair s p (v + 1) 1 i.opcode
  · exact (encode_of_form h).trans (by cases p <;> rfl)
  · exact costs_of_form h false 8 (by cases p <;> rfl)
  · rw [decPair, hv]
    exact spend_advance_setPair s p (v - 1) 1 i.opcode

/-! ## The sum into HL -/

/-- The low twelve bits of a word in numbers. -/
theorem and_0x0FFF_toNat (w : Word) : (w &&& 0x0FFF#16).toNat = w.toNat % 0x1000 :=
  (BitVec.toNat_and _ _).trans (Nat.and_two_pow_sub_one_eq_mod w.toNat 12)

theorem hi_ofNat (n : Nat) : hi (BitVec.ofNat 16 n) = BitVec.ofNat 8 (n / 0x100) := by
  apply BitVec.eq_of_toNat_eq
  rw [hi_toNat, BitVec.toNat_ofNat, BitVec.toNat_ofNat]
  omega

theorem lo_ofNat (n : Nat) : lo (BitVec.ofNat 16 n) = BitVec.ofNat 8 n := by
  apply BitVec.eq_of_toNat_eq
  rw [lo_toNat, BitVec.toNat_ofNat, BitVec.toNat_ofNat]
  omega

/-- The sum and the flags of `ADD HL,rr` in numbers (R293). -/
theorem addHl16_eq (a b : Word) (z : Bool) : addHl16 a b z =
    (BitVec.ofNat 16 (a.toNat + b.toNat), ⟨z, false, decide (0xFFF < a.toNat % 0x1000 + b.toNat % 0x1000),
      decide (0xFFFF < a.toNat + b.toNat)⟩) := by
  rw [addHl16, and_0x0FFF_toNat, and_0x0FFF_toNat, BitVec.add_def]

/-- Settles O25: the handler writes the two halves of the sum and the flags of `addHl16`. -/
theorem addToHl : Obligations.AddToHl := by
  intro i s p h b sum
  have hb : s.getPair p = b := by cases p <;> rfl
  refine ⟨(encode_of_form h).trans (by cases p <;> rfl), costs_of_form h false 8 (by cases p <;> rfl),
    exec_of_done h rfl ?_⟩
  rw [addHl, hb, addHl16_eq, State.setHl, hi_ofNat, lo_ofNat]
  rfl

end Sys2Proof.Machine
end

section
/-!
The rotates, shifts and bit instructions. On the prefixed page the encoding and the cost depend on the three fields of
the opcode alone, so they are looked up once for all of its instructions. A rotate by one place is a shift with a carry
put into the bit it frees, and each of the eight operations is such a shift, but for SWAP: one equation for each
direction gives their results in numbers.
-/

namespace Sys2Proof.Machine

variable {i : Instr} {x : Form} {z : Target} {a y : Nat}

/-! ## The opcodes of the prefixed page -/

theorem rotCode_lt (o : RotOp) : o.code < 8 := by
  cases o <;> decide

theorem targetCode_lt (z : Target) : z.code < 8 := by
  obtain r | _ := z
  · cases r <;> decide
  · decide

/-- The field value no register has is (HL) (R156). -/
theorem targetCode_eq_six : z.code = 6 ↔ z = .mem := by
  obtain r | _ := z
  · cases r <;> decide
  · decide

/-- An instruction of the second page is 0xCB and the byte of its fields (R152, R153). -/
theorem encode_of_cb (h : i.form = x) (hop : x.opcode = cb a y z.code) (himm : x.immediates = []) (ha : a < 4)
    (hy : y < 8) : encode i = [0xCB#8, BitVec.ofNat 8 (xyz a y z.code)] := by
  have hlt : xyz a y z.code < 0x100 := by
    have := targetCode_lt z
    unfold xyz
    omega
  have hpre : (0xCB00 + xyz a y z.code) / 0x100 = 0xCB := by omega
  have hlow : BitVec.ofNat 8 (0xCB00 + xyz a y z.code) = BitVec.ofNat 8 (xyz a y z.code) := by
    rw [BitVec.ofNat_add]
    exact BitVec.zero_add _
  rw [encode_of_form h, hop, himm, List.append_nil, cb, opcodeBytes, if_neg (by omega), hpre, hlow]

/-- The default cost on the prefixed page: 8 on a register, on (HL) 12 for BIT and 16 otherwise (R166). -/
theorem defaultCost_cb (ha : a < 4) (hy : y < 8) (z : Target) :
    defaultCost (cb a y z.code) = flat (if z = .mem then if a = 1 then 12 else 16 else 8) := by
  have hz := targetCode_lt z
  have hlow : cb a y z.code % 0x100 = xyz a y z.code := by
    unfold cb xyz
    omega
  have hfields : xyz a y z.code % 8 = z.code ∧ xyz a y z.code / 64 = a := by
    unfold xyz
    omega
  have hpage : ¬cb a y z.code < 0x100 := by
    unfold cb
    omega
  rw [defaultCost, if_neg hpage, hlow, secondPageCost, hfields.1, hfields.2]
  by_cases hmem : z = .mem
  · rw [if_pos (targetCode_eq_six.2 hmem), if_pos hmem, apply_ite flat]
  · rw [if_neg (mt targetCode_eq_six.1 hmem), if_neg hmem]

theorem costs_of_cb (h : i.form = x) (hop : x.opcode = cb a y z.code) (ha : a < 4) (hy : y < 8) (n : Nat)
    (hn : (if z = .mem then if a = 1 then 12 else 16 else 8) = n) : costs i false n := by
  refine costs_of_form h false n ?_
  rw [hop, defaultCost_cb ha hy, hn]
  rfl

/-! ## Rotates and shifts in numbers -/

theorem getLsbD_seven (v : Byte) : v.getLsbD 7 = decide (0x80 ≤ v.toNat) :=
  v.msb_eq_getLsbD_last.symm.trans v.msb_eq_decide

theorem getLsbD_zero (v : Byte) : v.getLsbD 0 = decide (v.toNat % 2 = 1) :=
  Nat.testBit_zero v.toNat

/-- The bit shifted out to the left as a number. -/
theorem toNat_getLsbD_seven (v : Byte) : (v.getLsbD 7).toNat = v.toNat / 0x80 := by
  have := v.isLt
  simp only [carry_bool, getLsbD_seven, decide_eq_true_eq]
  split <;> omega

/-- The bit shifted out to the right as a number. -/
theorem toNat_getLsbD_zero (v : Byte) : (v.getLsbD 0).toNat = v.toNat % 2 := by
  simp only [carry_bool, getLsbD_zero, decide_eq_true_eq]
  split <;> omega

theorem carry8_toNat (c : Bool) : (carry8 c).toNat = c.toNat := by
  cases c <;> rfl

theorem carry8_shiftLeft_seven_toNat (c : Bool) : (carry8 c <<< 7).toNat = 0x80 * c.toNat := by
  cases c <;> rfl

theorem shiftLeft_toNat (v : Byte) (n : Nat) : (v <<< n).toNat = v.toNat * 2 ^ n % 0x100 := by
  rw [BitVec.toNat_shiftLeft, Nat.shiftLeft_eq]

theorem shiftRight_toNat (v : Byte) (n : Nat) : (v >>> n).toNat = v.toNat / 2 ^ n := by
  rw [BitVec.toNat_ushiftRight, Nat.shiftRight_eq_div_pow]

/-- The union of bits from place `k` up with bits below it is their sum. -/
theorem or_eq_ofNat_add {u w : Byte} (k : Nat) (hu : 2 ^ k ∣ u.toNat) (hw : w.toNat < 2 ^ k) :
    u ||| w = BitVec.ofNat 8 (u.toNat + w.toNat) := by
  obtain ⟨m, hm⟩ := hu
  have hor : (u ||| w).toNat = u.toNat + w.toNat := by
    rw [BitVec.toNat_or, hm, Nat.two_pow_add_eq_or_of_lt hw]
  rw [← hor, BitVec.ofNat_toNat, BitVec.setWidth_eq]

/-- A shift to the left with a carry put into bit 0. -/
theorem shiftLeft_or_carry8 (v : Byte) {c : Bool} {n : Nat} (hn : c.toNat = n) :
    (v <<< 1) ||| carry8 c = BitVec.ofNat 8 (2 * v.toNat % 0x100 + n) := by
  have hshift : (v <<< 1).toNat = 2 * v.toNat % 0x100 := by rw [shiftLeft_toNat, Nat.pow_one, Nat.mul_comm]
  have hc : (carry8 c).toNat = n := (carry8_toNat c).trans hn
  have hlt := c.toNat_lt
  rw [or_eq_ofNat_add 1 (by omega) (by omega), hshift, hc]

/-- A shift to the right with a carry put into bit 7. -/
theorem shiftRight_or_carry8 (v : Byte) {c : Bool} {n : Nat} (hn : c.toNat = n) :
    (v >>> 1) ||| (carry8 c <<< 7) = BitVec.ofNat 8 (v.toNat / 2 + 0x80 * n) := by
  have hv := v.isLt
  have hshift : (v >>> 1).toNat = v.toNat / 2 := shiftRight_toNat v 1
  have hc : (carry8 c <<< 7).toNat = 0x80 * n := (carry8_shiftLeft_seven_toNat c).trans (congrArg _ hn)
  rw [BitVec.or_comm, or_eq_ofNat_add 7 (by omega) (by omega), hshift, hc, Nat.add_comm]

/-- The mask of SRA keeps the sign as a carry into bit 7 (R315). -/
theorem and_0x80_eq (v : Byte) : v &&& 0x80#8 = carry8 (v.getLsbD 7) <<< 7 := by
  have h : v &&& 0x80#8 = if v.getLsbD 7 then 0x80#8 else 0#8 := BitVec.and_twoPow v 7
  rw [h]
  cases v.getLsbD 7 <;> rfl

/-- The two nibbles exchanged; the mask of SWAP clears nothing (R316). -/
theorem swapNibbles_eq (v : Byte) :
    ((v <<< 4) &&& 0xF0#8) ||| (v >>> 4) = BitVec.ofNat 8 (0x10 * (v.toNat % 0x10) + v.toNat / 0x10) := by
  have hv := v.isLt
  have hmask : (v <<< 4) &&& 0xF0#8 = v <<< 4 := by
    have h : (v <<< 4) &&& 0xF0#8 = (v &&& BitVec.allOnes 8) <<< 4 :=
      (BitVec.shiftLeft_and_distrib v (BitVec.allOnes 8) 4).symm
    rw [h, BitVec.and_allOnes]
  have hhigh : (v <<< 4).toNat = 0x10 * (v.toNat % 0x10) := by
    rw [shiftLeft_toNat]
    omega
  have hlow : (v >>> 4).toNat = v.toNat / 0x10 := shiftRight_toNat v 4
  rw [hmask, or_eq_ofNat_add 4 (by omega) (by omega), hhigh, hlow]

/-- The result and the bit shifted out of a rotate or shift of the number `v` with the carry `c` (R310 to R317). -/
def rotateNat (o : RotOp) (v c : Nat) : Nat × Bool :=
  match o with
  | .rlc => (2 * v % 0x100 + v / 0x80, decide (0x80 ≤ v))
  | .rrc => (v / 2 + 0x80 * (v % 2), decide (v % 2 = 1))
  | .rl => (2 * v % 0x100 + c, decide (0x80 ≤ v))
  | .rr => (v / 2 + 0x80 * c, decide (v % 2 = 1))
  | .sla => (2 * v % 0x100, decide (0x80 ≤ v))
  | .sra => (v / 2 + 0x80 * (v / 0x80), decide (v % 2 = 1))
  | .swap => (0x10 * (v % 0x10) + v / 0x10, false)
  | .srl => (v / 2, decide (v % 2 = 1))

/-- The rotates and shifts in numbers: SLA and SRL put in no carry, the rotates in a circle the bit they shift out, and
SRA the sign. -/
theorem rotate_eq (o : RotOp) (v : Byte) (c : Bool) :
    rotate o v c = (BitVec.ofNat 8 (rotateNat o v.toNat c.toNat).1, (rotateNat o v.toNat c.toNat).2) := by
  refine Prod.ext ?_ ?_
  · cases o with
    | rlc => exact shiftLeft_or_carry8 v (toNat_getLsbD_seven v)
    | rrc => exact shiftRight_or_carry8 v (toNat_getLsbD_zero v)
    | rl => exact shiftLeft_or_carry8 v rfl
    | rr => exact shiftRight_or_carry8 v rfl
    | sla => exact BitVec.or_zero.symm.trans (shiftLeft_or_carry8 v Bool.toNat_false)
    | sra => exact (congrArg _ (and_0x80_eq v)).trans (shiftRight_or_carry8 v (toNat_getLsbD_seven v))
    | swap => exact swapNibbles_eq v
    | srl => exact BitVec.or_zero.symm.trans (shiftRight_or_carry8 v Bool.toNat_false)
  · cases o with
    | rlc | rl | sla => exact getLsbD_seven v
    | rrc | rr | sra | srl => exact getLsbD_zero v
    | swap => rfl

theorem rotateNat_lt (o : RotOp) {v c : Nat} (hv : v < 0x100) (hc : c < 2) : (rotateNat o v c).1 < 0x100 := by
  cases o <;> dsimp only [rotateNat] <;> omega

/-- FZ tells whether the number is 0, which fits a byte (R304). -/
theorem rotateFlags_eq (o : RotOp) (v : Byte) (c : Bool) :
    rotateFlags o v c = (BitVec.ofNat 8 (rotateNat o v.toNat c.toNat).1,
      ⟨decide ((rotateNat o v.toNat c.toNat).1 = 0), false, false, (rotateNat o v.toNat c.toNat).2⟩) := by
  have hlt := rotateNat_lt o v.isLt c.toNat_lt
  have hzero : (BitVec.ofNat 8 (rotateNat o v.toNat c.toNat).1 == 0#8) =
      decide ((rotateNat o v.toNat c.toNat).1 = 0) := by
    rw [Bool.eq_iff_iff, beq_iff_eq, decide_eq_true_eq, ← BitVec.toNat_inj, BitVec.toNat_ofNat, Nat.mod_eq_of_lt hlt]
    rfl
  rw [rotateFlags, rotate_eq, hzero]

/-- Settles O26: the four rotates are those of the prefixed page in numbers, with FZ cleared. -/
theorem accumulatorRotates : Obligations.AccumulatorRotates := by
  intro i s o h v cin x
  have hx : rotateNat (accOp o) v s.fc.toNat = x.2 := by
    rw [carry_bool]
    cases o <;> rfl
  refine ⟨(encode_of_form h).trans (by cases o <;> rfl), costs_of_form h false 4 (by cases o <;> rfl),
    exec_of_done h rfl ?_⟩
  rw [accRotate, accRotateFlags, rotate_eq, hx]
  rfl

/-- Settles O27: the next state is the handler's with the result and the flags of `rotateFlags` in numbers, for a
register and for the store at HL. -/
theorem prefixedRotates : Obligations.PrefixedRotates := by
  intro i s o z h v cin x res fl
  have hv : (s.target z).toNat = v := by cases z <;> rfl
  have hx : rotateNat o v s.fc.toNat = x := by
    rw [carry_bool]
    cases o <;> rfl
  have hflags : rotateFlags o (s.target z) s.fc = (res, fl) := by rw [rotateFlags_eq, hv, hx]
  refine ⟨by cases o <;> rfl, ?_, ?_, ?_⟩
  · rw [encode_of_cb h rfl rfl (by decide) (rotCode_lt o), xyz, Nat.mul_zero, Nat.zero_add]
  · rintro r rfl
    refine ⟨costs_of_cb h rfl (by decide) (rotCode_lt o) 8 rfl, exec_of_done h rfl ?_⟩
    rw [rotTarget, hflags]
    exact spend_advance_setFlags_setReg s r res fl 2 i.opcode
  · rintro rfl
    refine ⟨costs_of_cb h rfl (by decide) (rotCode_lt o) 16 rfl, exec_of_done h rfl ?_,
      State.StoredOnlyAt.setFlags (storedOnlyAt_of_cpuOnly ⟨rfl, id⟩)⟩
    rw [rotTarget, hflags]
    exact spend_advance_setFlags_memWrite s s.hl res fl 2 i.opcode

/-! ## Single bits -/

/-- Settles O28: the handler writes the flags only. -/
theorem testBit : Obligations.TestBit := by
  intro i s k z h v
  have hv : s.target z = v := by cases z <;> rfl
  refine ⟨encode_of_cb h rfl rfl (by decide) k.isLt, costs_of_cb h rfl (by decide) k.isLt _ rfl,
    exec_of_done h rfl ?_⟩
  rw [bitTarget, hv]
  rfl

theorem getLsbD_bitMask (k : BitIndex) (j : Nat) : (bitMask k).getLsbD j = decide (j = k) := by
  have h : (bitMask k).getLsbD j = (decide ((k : Nat) < 8) && decide ((k : Nat) = j)) := BitVec.getLsbD_twoPow k j
  rw [h, decide_eq_true k.isLt, Bool.true_and, decide_eq_decide, eq_comm]

/-- Bit `k` made `one`: SET or RES (R322, R324). -/
def writeBit (one : Bool) (k : BitIndex) (v : Byte) : Byte := if one then setBit k v else clearBit k v

theorem getLsbD_writeBit (one : Bool) (k : BitIndex) (v : Byte) (j : Nat) (hj : j < 8) :
    (writeBit one k v).getLsbD j = if j = k then one else v.getLsbD j := by
  cases one with
  | true =>
    have h : (writeBit true k v).getLsbD j = (v.getLsbD j || (bitMask k).getLsbD j) := BitVec.getLsbD_or
    rw [h, getLsbD_bitMask]
    by_cases hjk : j = k <;> simp [hjk]
  | false =>
    have h : (writeBit false k v).getLsbD j = (v.getLsbD j && (~~~ bitMask k).getLsbD j) := BitVec.getLsbD_and
    rw [h, BitVec.getLsbD_not, getLsbD_bitMask, decide_eq_true hj]
    by_cases hjk : j = k <;> simp [hjk]

/-- Settles O29: RES and SET are one write of the operand with `writeBit`, carried past the end of the handler. -/
theorem clearAndSetBit : Obligations.ClearAndSetBit := by
  intro i s k z one h v
  have hv : s.target z = v := by cases z <;> rfl
  have hop : (if one then Form.set k z else .res k z).opcode = cb (if one then 3 else 2) k z.code := by
    cases one <;> rfl
  have himm : (if one then Form.set k z else .res k z).immediates = [] := by cases one <;> rfl
  have hfield : (if one then 3 else 2) < 4 := by cases one <;> decide
  have hrun : run (if one then Form.set k z else .res k z) i.opcode s =
      done i.opcode ((s.setTarget z (writeBit one k v)).advance 2) := by
    rw [← hv]
    cases one <;> rfl
  refine ⟨writeBit one k v, getLsbD_writeBit one k v, ?_, ?_, ?_⟩
  · rw [encode_of_cb h hop himm hfield k.isLt]
    cases one <;> rfl
  · rintro r rfl
    exact ⟨costs_of_cb h hop hfield k.isLt 8 rfl,
      exec_of_done h hrun (spend_advance_setReg s r (writeBit one k v) 2 i.opcode)⟩
  · rintro rfl
    exact ⟨costs_of_cb h hop hfield k.isLt 16 (by cases one <;> rfl),
      exec_of_done h hrun (spend_advance_memWrite s s.hl (writeBit one k v) 2 i.opcode),
      storedOnlyAt_of_cpuOnly ⟨rfl, id⟩⟩

end Sys2Proof.Machine
end

section
/-!
The control transfers. A handler that jumps ends by writing PC and adding its cost; a conditional one has two outcomes
and the condition picks one of them with its cost. CALL and RST leave a push and the target, said once and used for both
and for CALL cc when it is taken.
-/

namespace Sys2Proof.Machine

variable {i : Instr} {s : State} {x : Form}

/-! ## Jumps -/

/-- Settles O30: each handler writes PC only; the target of JR in numbers is `relative_eq`. -/
theorem unconditionalJumps : Obligations.UnconditionalJumps := by
  intro i s
  refine ⟨fun w h => ⟨encode_of_form h, ?_, exec_of_done h rfl rfl⟩,
    fun h => ⟨encode_of_form h, costs_of_form h false 4 rfl, exec_of_done h rfl rfl⟩,
    fun e h => ⟨encode_of_form h, ?_, exec_of_done h rfl ?_⟩⟩
  · exact costs_of_form h false 16 (by dsimp only [Form.opcode]; rfl)
  · exact costs_of_form h false 12 (by dsimp only [Form.opcode]; rfl)
  · rw [jr, relative_eq]
    rfl

/-- An instruction whose handler is a conditional transfer leaves the outcome its condition picks, with the cost of
that outcome (R343). -/
theorem exec_of_branch {taken : Bool} {yes no : State} (h : i.form = x)
    (hrun : run x i.opcode s = branch i.opcode taken yes no) :
    exec i s = .next (if taken then yes.spend i.opcode true else no.spend i.opcode false) := by
  rw [exec_of_form h, hrun]
  cases taken <;> rfl

/-- A conditional jump leaves PC at its target or behind its bytes. -/
theorem exec_of_jump_branch {taken : Bool} {w : Word} {n : Nat} (h : i.form = x)
    (hrun : run x i.opcode s = branch i.opcode taken (s.setPc w) (s.advance n)) :
    exec i s = .next { s with
      pc := if taken then w else s.pc + BitVec.ofNat 16 n, elapsed := s.elapsedAfter i taken } := by
  rw [exec_of_branch h hrun]
  cases taken <;> rfl

/-- Settles O31: the encoding and the costs are looked up by condition, and the next state is the one of
`exec_of_jump_branch`. -/
theorem conditionalJumps : Obligations.ConditionalJumps := by
  intro i s cc taken
  have hcond : s.cond cc = taken := by cases cc <;> rfl
  refine ⟨by cases cc <;> rfl, hcond, fun w h => ⟨?_, ?_, ?_, ?_⟩, fun e h => ⟨?_, ?_, ?_, ?_⟩⟩
  · exact (encode_of_form h).trans (by cases cc <;> rfl)
  · exact costs_of_form h true 16 (by cases cc <;> dsimp only [Form.opcode] <;> rfl)
  · exact costs_of_form h false 12 (by cases cc <;> dsimp only [Form.opcode] <;> rfl)
  · rw [← hcond]
    exact exec_of_jump_branch h rfl
  · exact (encode_of_form h).trans (by cases cc <;> rfl)
  · exact costs_of_form h true 12 (by cases cc <;> dsimp only [Form.opcode] <;> rfl)
  · exact costs_of_form h false 8 (by cases cc <;> dsimp only [Form.opcode] <;> rfl)
  · rw [← hcond, ← relative_eq]
    exact exec_of_jump_branch h rfl

/-! ## Calls -/

/-- A call stores the return address by two writes of the router, and the rest of it writes CPU registers only. -/
theorem spend_push16_setPc (s : State) (ret target : Word) (op : Nat) (taken : Bool) :
    ((s.push16 ret).setPc target).spend op taken =
      { s.memorySide ((s.memWrite (s.sp - 1) (hi ret)).memWrite (s.sp - 2) (lo ret)) with
        sp := s.sp - 2, pc := target, elapsed := s.elapsed + cyclesOf s.cfg op taken } := by
  rw [push16_eq]
  rfl

/-- RST is the byte 0b11kkk111 (R342). -/
theorem opcodeBytes_rst (k : BitIndex) : opcodeBytes (Form.rst k).opcode = [BitVec.ofNat 8 (0xC7 + 8 * k)] := by
  revert k
  decide

theorem defaultCost_rst (k : BitIndex) : defaultCost (Form.rst k).opcode = flat 16 := by
  revert k
  decide

/-- Settles O32: taken, the next state is the one of `spend_push16_setPc`, whose two stores have the router's frames;
not taken, only PC and the cycles are written. -/
theorem callsPushTheReturnAddress : Obligations.CallsPushTheReturnAddress := by
  intro i s ret target u t
  have hframe (n : Nat) : s.StoredOnlyAt (s.sp - 1) u ∧ u.StoredOnlyAt (s.sp - 2) (t n) :=
    ⟨memWrite_storedOnlyAt s (s.sp - 1) (hi ret), storedOnlyAt_of_cpuOnly_second ⟨rfl, id⟩⟩
  have hspend (taken : Bool) : ((s.push16 ret).setPc target).spend i.opcode taken = t (s.elapsedAfter i taken) :=
    spend_push16_setPc s ret target i.opcode taken
  refine ⟨?_, ?_, ?_⟩
  · rintro h rfl
    exact ⟨encode_of_form h, costs_of_form h false 24 (by dsimp only [Form.opcode]; rfl),
      exec_of_done h rfl (hspend false), hframe _⟩
  · rintro k h rfl rfl
    refine ⟨?_, costs_of_form h false 16 ?_, exec_of_done h rfl (hspend false), hframe _⟩
    · rw [encode_of_form h, opcodeBytes_rst]
      rfl
    · rw [defaultCost_rst]
      rfl
  · rintro cc h rfl
    refine ⟨(encode_of_form h).trans (by cases cc <;> rfl),
      costs_of_form h true 24 (by cases cc <;> dsimp only [Form.opcode] <;> rfl),
      costs_of_form h false 12 (by cases cc <;> dsimp only [Form.opcode] <;> rfl),
      fun hc => ⟨?_, hframe _⟩, fun hc => ?_⟩
    · rw [exec_of_branch h rfl, if_pos hc, ← hspend]
      rfl
    · rw [exec_of_branch h rfl, if_neg (Bool.eq_false_iff.1 hc)]
      rfl

/-! ## Returns -/

/-- Settles O33: the word popped is the byte at SP + 1 above the byte at SP, and RET cc pops it where its condition
holds. -/
theorem returnsPopThePc : Obligations.ReturnsPopThePc := by
  intro i s back
  exact ⟨fun h => ⟨encode_of_form h, costs_of_form h false 16 rfl, exec_of_done h rfl rfl⟩,
    fun h => ⟨encode_of_form h, costs_of_form h false 16 rfl, exec_of_done h rfl rfl⟩,
    fun cc h => ⟨(encode_of_form h).trans (by cases cc <;> rfl), costs_of_form h true 20 (by cases cc <;> rfl),
      costs_of_form h false 8 (by cases cc <;> rfl), exec_of_branch h rfl⟩⟩

end Sys2Proof.Machine
end

section
/-!
The system instructions and the codes without a handler, by themselves and as the step that fetches them. A step
without a service is its line 5 and its end, said once: the halted tick and the abort both follow from it.
-/

namespace Sys2Proof.Machine

variable {i : Instr} {s : State} {b b0 : Byte}

/-! ## NOP, DI, EI, HALT and STOP -/

/-- Settles O34: each handler writes PC, beside IME or beside RUN and the snapshot, and the cost is added. -/
theorem nopHaltAndInterruptEnable : Obligations.NopHaltAndInterruptEnable := by
  intro i s t
  exact ⟨fun h => ⟨encode_of_form h, costs_of_form h false 4 rfl, exec_of_done h rfl rfl⟩,
    fun h => ⟨encode_of_form h, costs_of_form h false 4 rfl, exec_of_done h rfl rfl⟩,
    fun h => ⟨encode_of_form h, costs_of_form h false 4 rfl, exec_of_done h rfl rfl⟩,
    fun h => ⟨encode_of_form h, costs_of_form h false 4 rfl, exec_of_done h rfl rfl⟩⟩

/-- What STOP and its cost leave, armed or not (R362). -/
theorem spend_stopOp (s : State) (op : Nat) :
    (stopOp s).spend op false =
      let t := { s with pc := s.pc + 2, elapsed := s.elapsed + cyclesOf s.cfg op false }
      if s.cfg.cgbMode && (s.mem.read 0xFF4D).getLsbD 0 then { t with speedPend := true }
      else { t with run := .stopped } := by
  have hport : s.io 0x4D = s.mem.read 0xFF4D := rfl
  rw [stopOp, hport]
  split <;> rfl

/-- Settles O35: the two outcomes are those of `spend_stopOp`. -/
theorem stopOrSpeedSwitch : Obligations.StopOrSpeedSwitch := by
  intro i s h t armed
  have he : encode i = [0x10#8, 0x00#8] := encode_of_form h
  exact ⟨congrArg List.length he, congrArg List.head? he, costs_of_form h false 4 rfl,
    exec_of_done h rfl (spend_stopOp s i.opcode)⟩

/-! ## The codes without a handler -/

/-- The opcode number of a first byte is written as that byte. -/
theorem opcodeBytes_toNat (b : Byte) : opcodeBytes b.toNat = [b] := by
  rw [opcodeBytes, if_pos b.isLt, BitVec.ofNat_toNat, BitVec.setWidth_eq]

/-- An instruction without a handler writes the fault and no cost (R366). -/
theorem exec_of_illegal (h : i.form = .illegal b) (s : State) : exec i s = .next (s.raiseUnimplemented b) :=
  exec_of_form h s

/-- Settles O36: the code is its own encoding, and the fault is all its instruction writes. -/
theorem illegalOpcodeRecordsTheFault : Obligations.IllegalOpcodeRecordsTheFault := by
  intro i s b h
  exact ⟨(encode_of_form h).trans (congrArg (· ++ []) (opcodeBytes_toNat b)), exec_of_illegal h s⟩

/-- What is decoded at one of the eleven codes has no handler and names that code (R165). -/
theorem form_decodeFetched_of_mem_illegalCodes (h : b0 ∈ illegalCodes) (b1 b2 : Byte) :
    (decodeFetched b0 b1 b2).form = .illegal b0 := by
  simp only [illegalCodes, List.mem_cons, List.not_mem_nil, or_false] at h
  rcases h with rfl | rfl | rfl | rfl | rfl | rfl | rfl | rfl | rfl | rfl | rfl <;> rfl

/-! ## A step without a service -/

/-- A step that is not idle and neither wakes nor serves is line 5 and the end of the step (R400). -/
theorem step_of_no_service (hfault : s.fault = none) (hstopped : s.run ≠ .stopped)
    (hwake : s.run ≠ .halted ∨ s.ifReg = s.hsnap)
    (hserve : (s.ime = false ∧ s.hsnap = 0#8) ∨ s.pending = none) :
    step s = andThen s.beginStep.tickOrInstr fun u => .next u.endStep := by
  have hw : s.beginStep.wakeTest = s.beginStep := wakeTest_stay hwake
  have hc : s.beginStep.controller = .next s.beginStep := controller_none (toServe_none hserve)
  rw [step_live (idle_eq_false hfault hstopped), hw, hc]
  rfl

/-- The end of a step without a fault gives its cycles to the timer and returns them (R400). -/
theorem endStep_of_no_fault (h : s.fault = none) :
    s.endStep = { s.timerAdvance s.elapsed with returned := some s.elapsed } := by
  rw [State.endStep, h]
  rfl

/-- A step that raised the fault ends before the timer and the return (R430). -/
theorem endStep_of_fault (h : s.fault.isSome = true) : s.endStep = s := by
  rw [State.endStep, if_pos h]

/-- Settles O51: line 5 is the halted tick, and the end of the step advances the timer by its 4 cycles. -/
theorem haltedTick : Obligations.HaltedTick := by
  intro s hfault hhalted hsame hserve
  have hstopped : s.run ≠ .stopped := by rw [hhalted]; nofun
  have htick : s.beginStep.tickOrInstr = .next (s.beginStep.addCycles 4) := tickOrInstr_halted hhalted
  have hend := endStep_of_no_fault (s := s.beginStep.addCycles 4) hfault
  rw [step_of_no_service hfault hstopped (.inr hsame) hserve, htick, andThen, hend]
  rfl

/-- Settles O52: line 5 runs an instruction without a handler, whose fault ends the step; the next step is idle. -/
theorem illegalOpcodeAbortsTheSession : Obligations.IllegalOpcodeAbortsTheSession := by
  intro s hfault hrunning hserve u b hb
  have hstopped : s.run ≠ .stopped := by rw [hrunning]; nofun
  have hhalted : s.run ≠ .halted := by rw [hrunning]; nofun
  have hfetch : u.fetch.form = .illegal b := form_decodeFetched_of_mem_illegalCodes hb _ _
  have hline : s.beginStep.tickOrInstr = .next (u.raiseUnimplemented b) :=
    (tickOrInstr_running (s := u) hhalted).trans (exec_of_illegal hfetch u)
  refine ⟨?_, step_idle rfl⟩
  rw [step_of_no_service hfault hstopped (.inl hhalted) hserve, hline, andThen, endStep_of_fault rfl]
  rfl

end Sys2Proof.Machine
end

section
/-!
The interrupt controller and the lines of a step: which source is pending, what a service leaves, when a step is
refused, and that every instruction completes.
-/

namespace Sys2Proof.Machine

variable {s t v : State} {k : Fin 5} {i : Instr} {rest : List Byte}

/-! ## Every instruction completes -/

theorem exists_branch_eq_next (op : Nat) (taken : Bool) (yes no : State) : ∃ t, branch op taken yes no = .next t := by
  cases taken
  · exact ⟨no.spend op false, rfl⟩
  · exact ⟨yes.spend op true, rfl⟩

/-- A conditional transfer has two outcomes; every other shape ends in the cost of its opcode or in the recorded
fault. -/
theorem exists_run_eq_next (x : Form) (op : Nat) (s : State) : ∃ t, run x op s = .next t := by
  cases x with
  | jpCond | jrCond | callCond | retCond => exact exists_branch_eq_next _ _ _ _
  | _ => exact ⟨_, rfl⟩

/-- Settles O38: by the shape of the instruction. -/
theorem everyInstructionCompletes : Obligations.EveryInstructionCompletes := by
  intro i s
  rw [exec_eq_run]
  exact exists_run_eq_next _ _ _

/-! ## The pending source -/

theorem find?_cons_eq_ite {α : Type} (p : α → Bool) (x : α) (xs : List α) :
    (x :: xs).find? p = if p x then some x else xs.find? p := by
  rw [List.find?_cons]
  cases p x <;> rfl

/-- A search through `Fin n` in order finds the least index that answers. -/
theorem find?_finRange_eq_some_iff {n : Nat} {p : Fin n → Bool} {j : Fin n} :
    (List.finRange n).find? p = some j ↔ p j = true ∧ ∀ l < j, p l = false := by
  rw [List.find?_eq_some_iff_getElem]
  refine and_congr_right fun _ => ⟨?_, fun hlow => ?_⟩
  · rintro ⟨m, hm, hj, hlow⟩ l hl
    rw [List.getElem_finRange] at hj
    have hlm : l.val < m := by
      rw [← hj] at hl
      exact hl
    simpa only [List.getElem_finRange, Fin.cast_mk, Bool.not_eq_true'] using hlow l hlm
  · refine ⟨j, List.length_finRange.symm ▸ j.isLt, List.getElem_finRange _, fun m hm => ?_⟩
    simpa only [List.getElem_finRange, Fin.cast_mk, Bool.not_eq_true'] using hlow ⟨m, Nat.lt_trans hm j.isLt⟩ hm

theorem find?_finRange_eq_none_iff {n : Nat} {p : Fin n → Bool} :
    (List.finRange n).find? p = none ↔ ∀ j, p j = false := by
  simp only [List.find?_eq_none, List.mem_finRange, true_implies, Bool.not_eq_true]

/-- `pending()` is the search for the first source set in both masks (R410). -/
theorem pending_eq_find? (s : State) :
    s.pending = (List.finRange 5).find? fun j : Fin 5 => (s.ie &&& s.mem.read 0xFF0F).getLsbD j := by
  have hsources : List.finRange 5 = [0, 1, 2, 3, 4] := by decide
  have hif : s.ifReg = s.mem.read 0xFF0F := rfl
  simp only [State.pending, hif, hsources, find?_cons_eq_ite, List.find?_nil]
  rfl

/-- The mask of the five sources holds bits 0 to 4 (R410). -/
theorem and_0x1F_eq_zero_iff (m : Byte) : m &&& 0x1F#8 = 0#8 ↔ ∀ j : Fin 5, m.getLsbD j = false := by
  have hsource : ∀ j < 8, (0x1F#8).getLsbD j = decide (j < 5) := by decide
  constructor
  · intro h j
    have hj : (m &&& 0x1F#8).getLsbD j = false := by rw [h, BitVec.getLsbD_zero]
    rw [BitVec.getLsbD_and, hsource j (by omega)] at hj
    simpa using hj
  · intro h
    apply BitVec.eq_of_getLsbD_eq
    intro j hj
    rw [BitVec.getLsbD_and, hsource j hj, BitVec.getLsbD_zero]
    by_cases hj5 : j < 5
    · rw [h ⟨j, hj5⟩, Bool.false_and]
    · rw [decide_eq_false hj5, Bool.and_false]

/-- Settles O49: the search finds nothing, or the first source of the common mask. -/
theorem pendingIsTheLowestSource : Obligations.PendingIsTheLowestSource := by
  intro s
  rw [pending_eq_find?]
  refine ⟨?_, fun k => ?_⟩
  · rw [find?_finRange_eq_none_iff, and_0x1F_eq_zero_iff]
  · exact find?_finRange_eq_some_iff

/-! ## The service -/

theorem sourceMask_eq_shift (k : Fin 5) : sourceMask k = 1#8 <<< (k : Nat) := by
  revert k
  decide

/-- Settles O48: the push changes the memory side and SP, each of its stores has the frame of a store, and the rest of
the service is written out. -/
theorem serviceEntersTheHandler : Obligations.ServiceEntersTheHandler := by
  intro s k u w m
  have hm : m = u.memorySide m := (memWrite_eq w _ _).trans (memorySide_trans _ _ _ (memWrite_eq u _ _))
  refine ⟨?_, memWrite_storedOnlyAt u _ _, memWrite_storedOnlyAt w _ _⟩
  rw [← hm, ← sourceMask_eq_shift]
  rfl

/-! ## The lines before the instruction -/

/-- The wake test fires (R402). -/
def State.wakes (s : State) : Bool := decide (s.run = RunState.halted) && s.ifReg != s.hsnap

/-- Lines 2 and 3 of a step, written out (R400, R402). -/
theorem wakeTest_beginStep (s : State) : s.beginStep.wakeTest = { s with
    run := if s.wakes then .running else s.run, elapsed := if s.wakes then 4 else 0, returned := none
    tick := s.tick + 1 } := by
  by_cases h : s.run = .halted ∧ s.ifReg ≠ s.hsnap
  · have hw : s.wakes = true := by simpa [State.wakes] using h
    rw [wakeTest_fire (s := s.beginStep) h.1 h.2, hw]
    rfl
  · have hw : s.wakes = false := by simpa [State.wakes] using h
    rw [wakeTest_stay (s := s.beginStep) ((Decidable.not_and_iff_not_or_not.1 h).imp_right Decidable.not_not.1), hw]
    rfl

/-- Lines 2 and 3 leave alone what the controller decides on. -/
theorem wakeTest_beginStep_controls (s : State) : let u := s.beginStep.wakeTest
    u.ime = s.ime ∧ u.hsnap = s.hsnap ∧ u.pending = s.pending ∧ u.cfg = s.cfg := by
  intro u
  have h : u = _ := wakeTest_beginStep s
  rw [h]
  exact ⟨rfl, rfl, rfl, rfl⟩

/-- Once the controller is done and the block runs, a step runs the instruction decoded at PC and ends (R400, R404). -/
theorem step_of_controller (hidle : s.idle = false) (hcontroller : s.beginStep.wakeTest.controller = .next v)
    (hrun : v.run ≠ .halted)
    (hdecode : decode [v.memRead v.pc, v.memRead (v.pc + 1), v.memRead (v.pc + 2)] = .ok (i, rest))
    (hexec : exec i v = .next t) : step s = .next t.stepEnd := by
  have hline : v.tickOrInstr = .next t := by rw [tickOrInstr_running hrun, fetch_of_decode hdecode, hexec]
  rw [step_live hidle, hcontroller, andThen, hline]
  rfl

/-- Settles O46: the controller has no service to make, so the state at the instruction is the one after line 3. -/
theorem stepRunsTheDecodedInstruction : Obligations.StepRunsTheDecodedInstruction := by
  intro s i rest t hfault hrun hserve u hdecode hexec
  have hu : s.beginStep.wakeTest = u := by
    rw [wakeTest_beginStep]
    rcases hrun with hrun | ⟨hrun, hchanged⟩
    · simp [u, State.wakes, hrun]
    · simp [u, State.wakes, hrun, hchanged]
  have hcontroller : u.controller = .next u := controller_none (toServe_none hserve)
  have hstopped : s.run ≠ .stopped := by
    rcases hrun with hrun | ⟨hrun, -⟩ <;> simp [hrun]
  have hrunning : RunState.running ≠ .halted := nofun
  exact step_of_controller (idle_eq_false hfault hstopped) (hu ▸ hcontroller) hrunning hdecode hexec

theorem serve_run_ne_halted (s : State) (k : Fin 5) : (s.serve k).run ≠ .halted := by
  have h : (s.serve k).run = if s.run = .halted then .running else s.run := push16_run _ _
  rw [h]
  split
  · nofun
  · assumption

/-- Settles O47: the controller serves the source, 20 cycles in, and leaves the block running at the vector. -/
theorem stepServesThenRunsTheHandler : Obligations.StepServesThenRunsTheHandler := by
  intro s k i rest t hfault hstopped hpending hinvoked woken u v hdecode hexec
  have hu : s.beginStep.wakeTest = u := wakeTest_beginStep s
  have helapsed : (u.serve k).elapsed = u.elapsed := push16_elapsed _ _
  have hv : v = (u.serve k).addCycles serviceCycles := by
    rw [State.addCycles, helapsed]
    rfl
  have hserve : u.toServe = some k := toServe_some (hinvoked.imp_right And.left) hpending
  have hcontroller : u.controller = .next v := hv ▸ controller_some hserve (hinvoked.imp_right And.right)
  have hrunning : v.run ≠ .halted := serve_run_ne_halted u k
  exact step_of_controller (idle_eq_false hfault hstopped) (hu ▸ hcontroller) hrunning hdecode hexec

/-! ## Steps without effect, and the step without a next state -/

/-- Settles O50: either premise makes the step idle. -/
theorem idleStepsDoNothing : Obligations.IdleStepsDoNothing := by
  intro s h
  apply step_idle
  rw [State.idle, Bool.or_eq_true, Option.isSome_iff_ne_none, decide_eq_true_iff]
  exact h

theorem toServe_eq_some_iff : s.toServe = some k ↔ (s.ime = true ∨ s.hsnap ≠ 0#8) ∧ s.pending = some k := by
  simp [State.toServe, State.controllerInvoked]

theorem eq_refuse_of_ne_serve {p : BypassPolicy} (h : p ≠ .serve) : p = .refuse := by
  cases p with
  | serve => exact absurd rfl h
  | refuse => rfl

/-- The controller refuses nothing but a service with IME = 0 under the policy `refuse` (R406). -/
theorem exists_controller_eq_next
    (h : ¬ (s.ime = false ∧ s.hsnap ≠ 0#8 ∧ s.pending ≠ none ∧ s.cfg.imeBypass = .refuse)) :
    ∃ t, s.controller = .next t := by
  cases hserve : s.toServe with
  | none => exact ⟨s, controller_none hserve⟩
  | some k =>
    obtain ⟨hinvoked, hpending⟩ := toServe_eq_some_iff.1 hserve
    by_cases hserves : s.ime = true ∨ s.cfg.imeBypass = .serve
    · exact ⟨_, controller_some hserve hserves⟩
    · obtain ⟨hime, hpolicy⟩ := not_or.1 hserves
      have hsome : s.pending ≠ none := by
        rw [hpending]
        exact Option.some_ne_none k
      exact absurd ⟨Bool.eq_false_iff.2 hime, hinvoked.resolve_left hime, hsome,
        eq_refuse_of_ne_serve hpolicy⟩ h

theorem exists_tickOrInstr_eq_next (s : State) : ∃ t, s.tickOrInstr = .next t := by
  by_cases hrun : s.run = .halted
  · exact ⟨_, tickOrInstr_halted hrun⟩
  · rw [tickOrInstr_running hrun]
    exact everyInstructionCompletes s.fetch s

/-- Settles O53: of the lines of a step only the controller's can be refused. -/
theorem stepStopsOnlyOnTheBypass : Obligations.StepStopsOnlyOnTheBypass := by
  intro s bypass
  obtain ⟨hime, hsnap, hpending, hcfg⟩ := wakeTest_beginStep_controls s
  refine ⟨?_, fun hbypass => ?_⟩
  · rintro ⟨hfault, hstopped, hime', hsnap', hpending', hpolicy⟩
    obtain ⟨k, hk⟩ := Option.ne_none_iff_exists'.1 hpending'
    have hserve : s.beginStep.wakeTest.toServe = some k :=
      toServe_some (.inr (hsnap ▸ hsnap')) (hpending.trans hk)
    rw [step_live (idle_eq_false hfault hstopped), controller_refuses hserve (hime.trans hime') (hcfg ▸ hpolicy)]
    rfl
  · cases hidle : s.idle with
    | true => exact ⟨_, step_idle hidle⟩
    | false =>
      have hlive : s.fault = none ∧ s.run ≠ .stopped := by
        simpa [State.idle] using hidle
      obtain ⟨u, hu⟩ : ∃ u, s.beginStep.wakeTest.controller = .next u := by
        apply exists_controller_eq_next
        rw [hime, hsnap, hpending, hcfg]
        exact fun h => hbypass ⟨hlive.1, hlive.2, h⟩
      obtain ⟨v, hv⟩ := exists_tickOrInstr_eq_next u
      exact ⟨v.endStep, by rw [step_live hidle, hu, andThen, hv, andThen]⟩

end Sys2Proof.Machine
end

section
/-!
The timer: each line of TimerAdvance as what it makes of the registers and the latches, then the laws of a whole
advance.
-/

namespace Sys2Proof.Machine

variable {s : State}

/-! ## Line a: the speed switch -/

/-- The speed switch written out, pending or not (R450). -/
theorem speedSwitch_eq (s : State) : s.speedSwitch = { s with
    mem := if s.speedPend then s.mem.write 0xFF4D (if s.speed then 0x00#8 else 0x80#8) else s.mem
    divAcc := s.divAcc + if s.speedPend then s.cfg.speedSwitchStall else 0
    speed := s.speed != s.speedPend, speedPend := false } := by
  unfold State.speedSwitch
  cases hp : s.speedPend with
  | true => simp [State.setIo, State.store]
  | false =>
    simp only [Bool.false_eq_true, if_false, Nat.add_zero, Bool.bne_false]
    rw [← hp]

theorem speedSwitch_read_other {k : Nat} (hk : k ≠ 0xFF4D) : s.speedSwitch.mem.read k = s.mem.read k := by
  rw [speedSwitch_eq]
  dsimp only
  split
  · exact read_write_other _ _ hk
  · rfl

theorem speedSwitch_read_port (h : s.mem.wf = true) : s.speedSwitch.mem.read 0xFF4D =
    if s.speedPend then (if s.speed then 0x00#8 else 0x80#8) else s.mem.read 0xFF4D := by
  rw [speedSwitch_eq]
  dsimp only
  split
  · exact read_write_same _ _ _ h
  · rfl

/-! ## Line c: the divider -/

/-- What the divider's line leaves (R452). -/
theorem runDivider_eq (h : s.mem.wf = true) :
    s.runDivider.mem.read 0xFF04 = s.mem.read 0xFF04 + BitVec.ofNat 8 (s.divAcc / 256) ∧
    s.runDivider.divAcc = s.divAcc % 256 ∧
    (∀ k, k ≠ 0xFF04 → s.runDivider.mem.read k = s.mem.read k) ∧
    s.runDivider = { s with mem := s.runDivider.mem, divAcc := s.runDivider.divAcc } := by
  obtain ⟨hdiv, hacc, hother, hrest⟩ := divTicks_eq (s.divAcc / 256) s h
  refine ⟨hdiv, hacc.trans ?_, hother, hrest⟩
  omega

/-! ## Line d: the counter -/

/-- The counter events of a run of line d (R453). -/
def State.events (s : State) : Nat :=
  if (s.mem.read 0xFF07).getLsbD 2 then s.timAcc / timaPeriod (s.mem.read 0xFF07) else 0

/-- TIMA after them, and whether one overflowed (R454). -/
def State.counted (s : State) : Byte × Bool :=
  Nat.repeat (tickCounter (s.mem.read 0xFF06)) s.events (s.mem.read 0xFF05, false)

/-- What the counter's line leaves in storage and in TIMACC; what it leaves in the latches is `runCounter_latches`
(R453, R454). -/
theorem runCounter_eq (h : s.mem.wf = true) :
    s.runCounter.mem.read 0xFF05 = s.counted.1 ∧
    s.runCounter.mem.read 0xFF0F = (if s.counted.2 then s.mem.read 0xFF0F ||| 0x04#8 else s.mem.read 0xFF0F) ∧
    s.runCounter.timAcc = s.timAcc % timaPeriod (s.mem.read 0xFF07) ∧
    (∀ k, k ≠ 0xFF05 → k ≠ 0xFF0F → s.runCounter.mem.read k = s.mem.read k) := by
  have hport : s.io 0x07 = s.mem.read 0xFF07 := rfl
  unfold State.counted State.events State.runCounter
  rw [hport]
  dsimp only
  split
  · obtain ⟨htima, hif, hacc, hother, -⟩ := counterEvents_eq (timaPeriod (s.mem.read 0xFF07)) _ s h
    exact ⟨htima, hif, hacc.trans (Nat.mod_eq_sub_div_mul).symm, hother⟩
  · exact ⟨rfl, rfl, rfl, fun _ _ _ => rfl⟩

theorem toNat_mod_four (b : Byte) : b.toNat % 4 = 2 * (b.getLsbD 1).toNat + (b.getLsbD 0).toNat := by
  simp only [BitVec.getLsbD, Nat.toNat_testBit]
  omega

theorem timaPeriod_eq (tac : Byte) : timaPeriod tac =
    match tac.toNat % 4 with | 0 => 1024 | 1 => 16 | 2 => 64 | _ => 256 := by
  rw [toNat_mod_four]
  unfold timaPeriod
  cases tac.getLsbD 1 <;> cases tac.getLsbD 0 <;> rfl

/-! ## A whole advance -/

/-- The units DIVACC holds once both accumulators have advanced by `n` cycles (R450, R451). -/
def State.divUnits (s : State) (n : Nat) : Nat :=
  s.divAcc + (if s.speedPend then s.cfg.speedSwitchStall else 0) + (if s.speed != s.speedPend then 2 * n else n)

/-- What the lines before the counter's make of `s` in an advance by `n`. -/
structure State.DividerRun (s : State) (n : Nat) (d : State) : Prop where
  canonical : d.mem.wf = true
  div : d.mem.read 0xFF04 = s.mem.read 0xFF04 + BitVec.ofNat 8 (s.divUnits n / 256)
  port : d.mem.read 0xFF4D =
    if s.speedPend then (if s.speed then 0x00#8 else 0x80#8) else s.mem.read 0xFF4D
  other : ∀ k, k ≠ 0xFF04 → k ≠ 0xFF4D → d.mem.read k = s.mem.read k
  divAcc : d.divAcc = s.divUnits n % 256
  timAcc : d.timAcc = s.timAcc + n
  speed : d.speed = (s.speed != s.speedPend)
  speedPend : d.speedPend = false

theorem dividerRun (h : s.mem.wf = true) (n : Nat) :
    s.DividerRun n (s.speedSwitch.accumulate n).runDivider := by
  have hw : (s.speedSwitch.accumulate n).mem.wf = true := speedSwitch_wf s h
  have hunits : (s.speedSwitch.accumulate n).divAcc = s.divUnits n := by
    rw [speedSwitch_eq]
    rfl
  obtain ⟨hdiv, hacc, hother, hrest⟩ := runDivider_eq hw
  obtain ⟨-, hspeed, hpend⟩ := runDivider_latches hw
  rw [hunits] at hdiv hacc
  exact {
    canonical := divTicks_wf _ _ hw
    div := hdiv.trans (congrArg (· + _) (speedSwitch_read_other (by decide)))
    port := (hother _ (by decide)).trans (speedSwitch_read_port h)
    other := fun k h4 h4D => (hother k h4).trans (speedSwitch_read_other h4D)
    divAcc := hacc
    timAcc := by
      rw [hrest, speedSwitch_eq]
      rfl
    speed := by
      rw [hspeed, speedSwitch_eq]
      rfl
    speedPend := by
      rw [hpend, speedSwitch_eq]
      rfl }

/-- Settles O54: the counter's line leaves the divider's registers as line c made them. -/
theorem dividerLaw : Obligations.DividerLaw := by
  intro s n h fast units t
  have hd := dividerRun h n
  obtain ⟨-, -, -, hother⟩ := runCounter_eq hd.canonical
  obtain ⟨-, hacc, -, -⟩ := runCounter_latches hd.canonical
  have hdiv : t.mem.read 0xFF04 = s.mem.read 0xFF04 + BitVec.ofNat 8 (units / 256) :=
    (hother 0xFF04 (by decide) (by decide)).trans hd.div
  refine ⟨?_, hacc.trans hd.divAcc⟩
  rw [BitVec.ofNat_add, BitVec.ofNat_toNat, BitVec.setWidth_eq]
  exact hdiv

/-- The counter starts from the ports of the state before the advance. -/
theorem State.DividerRun.counted {n : Nat} {d : State} (hd : s.DividerRun n d) :
    d.counted = { s with timAcc := s.timAcc + n }.counted := by
  rw [State.counted, State.events, hd.other 0xFF05 (by decide) (by decide), hd.other 0xFF06 (by decide) (by decide),
    hd.other 0xFF07 (by decide) (by decide), hd.timAcc]
  rfl

/-- TIMACC after an advance: no part of a speed switch enters it (R450, R453). -/
theorem timerAdvance_timAcc (h : s.mem.wf = true) (n : Nat) :
    (s.timerAdvance n).timAcc = (s.timAcc + n) % timaPeriod (s.mem.read 0xFF07) := by
  have hd := dividerRun h n
  obtain ⟨-, -, hacc, -⟩ := runCounter_eq hd.canonical
  rw [hd.timAcc, hd.other 0xFF07 (by decide) (by decide)] at hacc
  exact hacc

/-- Settles O55: the counter's line, run on the ports the lines before it leave alone. -/
theorem counterLaw : Obligations.CounterLaw := by
  intro s n h tac period events x t
  have hd := dividerRun h n
  have hperiod : timaPeriod (s.mem.read 0xFF07) = period := timaPeriod_eq _
  have hcounted : { s with timAcc := s.timAcc + n }.counted = x := by
    rw [State.counted, State.events, hperiod]
    rfl
  obtain ⟨htima, hif, -, -⟩ := runCounter_eq hd.canonical
  rw [hd.counted, hcounted] at htima hif
  rw [hd.other 0xFF0F (by decide) (by decide)] at hif
  exact ⟨hperiod ▸ timerAdvance_timAcc h n, htima, hif⟩

/-- All an advance changes are storage, the accumulators and the speed latches (R455). -/
theorem timerAdvance_eq (s : State) (n : Nat) : let t := s.timerAdvance n
    t = { s with
      mem := t.mem, divAcc := t.divAcc, timAcc := t.timAcc, speed := t.speed, speedPend := t.speedPend } := by
  intro t
  exact congrArg (fun u : State => { u with
    mem := t.mem, divAcc := t.divAcc, timAcc := t.timAcc, speed := t.speed, speedPend := t.speedPend })
    (timerAdvance_sansTimer s n)

/-- Settles O56: the frames of the lines put together, then the speed switch by whether one is pending. -/
theorem speedSwitchAndTimerFrame : Obligations.SpeedSwitchAndTimerFrame := by
  intro s n h t
  have hd := dividerRun h n
  obtain ⟨-, -, -, hother⟩ := runCounter_eq hd.canonical
  obtain ⟨-, hacc, hspeed, hpend⟩ := runCounter_latches hd.canonical
  have hport : t.io 0x4D = _ := (hother 0xFF4D (by decide) (by decide)).trans hd.port
  replace hspeed : t.speed = (s.speed != s.speedPend) := hspeed.trans hd.speed
  replace hacc : t.divAcc = s.divUnits n % 256 := hacc.trans hd.divAcc
  refine ⟨timerAdvance_eq s n, ?_, hpend.trans hd.speedPend, ?_, ?_⟩
  · exact fun k h4 h5 hF h4D => (hother k h5 hF).trans (hd.other k h4 h4D)
  · intro hp
    rw [hspeed, hport, hp]
    exact ⟨Bool.bne_false s.speed, rfl⟩
  · intro hp
    have hunits : s.divUnits n = s.divAcc + s.cfg.speedSwitchStall + if s.speed then n else 2 * n := by
      rw [State.divUnits, hp]
      cases s.speed <;> rfl
    have hsettled := timerAdvance_timAcc (s := { s with speedPend := false }) h n
    rw [hspeed, hport, hacc, hunits, hp]
    exact ⟨Bool.bne_true s.speed, rfl, rfl, (timerAdvance_timAcc h n).trans hsettled.symm⟩

end Sys2Proof.Machine
end
